-- ==== Sys2Proof/Word.lean ====
section
/-! DEFINITION. The two plainest types of the model: a byte of a frame and a timer. -/

namespace Sys2Proof

/-- One byte of a frame (10_serial_ports_and_authority.md section 10.2). -/
abbrev Byte := BitVec 8

/-- A timer: stopped, or running with the time, in half-microseconds since the end of reset, at which it expires
(log entry 1). -/
abbrev Timer := Option Nat

/-- A sense of turning, +1 or -1 (R1). -/
inductive Sign
  | plus
  | minus
  deriving DecidableEq, Repr

/-- The sense as the step it gives a count. -/
def Sign.toInt : Sign → Int
  | .plus => 1
  | .minus => -1

end Sys2Proof
end

