-- ==== Sys2Proof/Config.lean ====
section
/-! DEFINITION. The free values: what the spec leaves open. Each is a constant with no body, so that no proof can see
what it is. -/

namespace Sys2Proof

/-- The three bit rates of the ports (10_serial_ports_and_authority.md section 10.2). -/
inductive BitRate
  | b57600
  | b115200
  | b230400
  deriving DecidableEq, Repr, Inhabited

/-- A fresh free choice for each value of State's counter freeCount: the order of several owners' work at one event, and
which of several due timers is taken first (R5, R123, R150, R153; log entry 4). -/
opaque Config.freeChoice : Nat → Nat

/-- The bit rate selected by two strap pins that are not both open: the spec names the three rates and gives only the
rate with both straps open (section 10.2; log entry 8). An argument is true when that strap is open. -/
opaque Config.strapRate : Bool → Bool → BitRate

end Sys2Proof
end

