-- ==== Sys2Proof/Syntax.lean ====
section
/-! DEFINITION. The names the commands use, and the commands: one constructor of Instr for each row of
spec/opcode_table.json. -/

namespace Sys2Proof

/-- The four motions H, D, S, W (00_scope.md section 4.3); also their brakes. -/
inductive Motion
  | H
  | D
  | S
  | W
  deriving DecidableEq, Repr

/-- The three drive channels (00_scope.md section 4.3). -/
inductive Channel
  | HOIST
  | DRAG_WALK
  | SWING
  deriving DecidableEq, Repr

/-- The five counting channels (R1). -/
inductive CountCh
  | HOIST
  | DRAG
  | SWING
  | CAM_L
  | CAM_R
  deriving DecidableEq, Repr

/-- The thirteen inputs of the counting channels; HOIST and DRAG have no Z (01 section 1.1). -/
inductive CountLine
  | HOIST_A
  | HOIST_B
  | DRAG_A
  | DRAG_B
  | SWING_A
  | SWING_B
  | SWING_Z
  | CAM_L_A
  | CAM_L_B
  | CAM_L_Z
  | CAM_R_A
  | CAM_R_B
  | CAM_R_Z
  deriving DecidableEq, Repr

/-- The two cams (06_walking.md section 6.3). -/
inductive Cam
  | L
  | R
  deriving DecidableEq, Repr

/-- The sixteen discrete inputs, DI0 to DI15 in order (01 section 1.6). -/
inductive DI
  | ESTOP_OK
  | HOIST_BRAKE_FB
  | DRAG_BRAKE_FB
  | SWING_BRAKE_FB
  | WALK_BRAKE_FB
  | XFER_DIG_FB
  | XFER_WALK_FB
  | HOIST_MARK
  | DRAG_MARK
  | OVERHOIST_SW
  | BOOM_JACK_SW
  | TUB_SEATED
  | LOCAL_KEY
  | LUBE_OK
  | AUX1
  | AUX2
  deriving DecidableEq, Repr

/-- The three serial ports (00_scope.md section 1.3). -/
inductive Port
  | CAB
  | DRIVE
  | SERVICE
  deriving DecidableEq, Repr

/-- The two masters that send demands and requests and may hold motions (R167). -/
inductive Master
  | CAB
  | SERVICE
  deriving DecidableEq, Repr

/-- The port a master sends on. -/
def Master.port : Master → Port
  | .CAB => .CAB
  | .SERVICE => .SERVICE

/-- The cam parameters whose change unsyncs the cams (R114). -/
inductive CamParam
  | CAM_CPR
  | CAM_MODE
  | CAM_INDEX_ANGLE
  deriving DecidableEq, Repr

/-- The two auxiliary conditions (R139). -/
inductive Aux
  | AUX1
  | AUX2
  deriving DecidableEq, Repr

/-- Class or scope of an auxiliary condition (R140). -/
inductive AuxField
  | CLASS
  | SCOPE
  deriving DecidableEq, Repr

/-- The four annunciation outputs (R146). -/
inductive AnnOutput
  | HORN
  | BUZZER
  | RED
  | AMBER
  deriving DecidableEq, Repr

/-- The classes that have a mask (08 section 8.6). -/
inductive AnnClass
  | TRIP
  | STOP
  | WARN
  deriving DecidableEq, Repr

/-- The parameters whose write re-judges the annunciation demands (R146, R148). -/
inductive MaskParam
  | mask (o : AnnOutput) (c : AnnClass)
  | PATTERN_PERIOD
  deriving DecidableEq, Repr

/-- The completion of a write into a slot: the number of the save it belongs to, and whether the slot matches the snapshot
(R179; log entry 22). -/
structure Completion where
  write : Nat
  matching : Bool
  deriving DecidableEq, Repr

/-- The commands: one constructor for each row of spec/opcode_table.json.

A frame command is the arrival of a valid frame (R160): it carries the payload bytes, and the port where more than one
accepts the kind. The seven rows START_SLOT_WRITE to MASK_WRITE are arrivals of a PARAM_WRITE frame with an id of that
group; they carry the 32-bit value of the frame. -/
inductive Instr
  | reset
  | countInputRawChange (line : CountLine) (level : Bool)
  | filterTimerExpiry (line : CountLine)
  | standstillTimerExpiry (ch : CountCh)
  | discreteInputRawChange (input : DI) (level : Bool)
  | debounceTimerExpiry (input : DI)
  | geometrySample
  | geometryHoldExpiry
  | referencePeriod
  | proofTimerExpiry (m : Motion)
  | openTimeExpiry (m : Motion)
  | setDelayExpiry (m : Motion)
  | closeTimeExpiry (m : Motion)
  | modeRequest (from_ : Master) (payload : List Byte)
  | transferTimerExpiry
  | lubeTimerExpiry
  | driveStatus (payload : List Byte)
  | missTimerExpiry
  | demand (from_ : Master) (payload : List Byte)
  | demandHoldExpiry (of : Master)
  | claim (payload : List Byte)
  | release (payload : List Byte)
  | serviceTimerExpiry
  | statusTimerExpiry (master : Master)
  | unknownKind (from_ : Master) (kind : Byte) (payload : List Byte)
  | frameTransmitted (port : Port)
  | alarmAck (from_ : Master) (payload : List Byte)
  | alarmSilence (from_ : Master) (payload : List Byte)
  | alarmReset (from_ : Master) (payload : List Byte)
  | alarmRead (from_ : Master) (payload : List Byte)
  | patternTimerExpiry
  | envelopeTimerExpiry
  | trendSlowExpiry
  | trendFastExpiry
  | trendTrigger (payload : List Byte)
  | trendRearm (payload : List Byte)
  | trendRead (payload : List Byte)
  | ropeSet (payload : List Byte)
  | tableWrite (payload : List Byte)
  | tableApply (payload : List Byte)
  | tableDiscard (payload : List Byte)
  | tableRead (payload : List Byte)
  | profileLoad (payload : List Byte)
  | profileSave (payload : List Byte)
  | saveCompletion (completion : Completion)
  | saveTimerExpiry
  | paramWrite (payload : List Byte)
  | startSlotWrite (value : BitVec 32)
  | curtailFloorWrite (ch : Channel) (value : BitVec 32)
  | swingCprWrite (value : BitVec 32)
  | camParamWrite (which : CamParam) (value : BitVec 32)
  | auxClassScopeWrite (aux : Aux) (field : AuxField) (value : BitVec 32)
  | auxActiveWrite (aux : Aux) (value : BitVec 32)
  | envelopeOnWrite (value : BitVec 32)
  | maskWrite (which : MaskParam) (value : BitVec 32)
  | paramRead (payload : List Byte)
  | characterReceived (port : Port) (byte : Byte) (stopOk : Bool)
  | interByteGap (port : Port)
  | hornSwitchingPeriod
  deriving DecidableEq, Repr

end Sys2Proof
end

