-- ==== Sys2Proof/Decode.lean ====
section
/-! DEFINITION. The table gives no row any bits (spec/opcode_table.json has no fixed bits and no fields), so no word
spells a command. -/

namespace Sys2Proof

/-- The command a word spells by the table's bits: none, since no row of the table gives bits. -/
def decodeTableWord (_nbits _w : Nat) : Option Instr :=
  none

end Sys2Proof
end

