-- ==== Sys2Proof/Machine/Arith.lean ====
section
/-! DEFINITION. The arithmetic of 00_scope.md section 4.4, the integer square root of R30, the bytes of a
value, and the check of R160. -/

namespace Sys2Proof.Machine

/-- The nearest integer to n / d, a tie going away from zero (section 4.4). -/
def roundDiv (n : Int) (d : Nat) : Int :=
  if 0 ≤ n then (2 * n + d) / (2 * d) else -((2 * (-n) + d) / (2 * d))

/-- One bit of the square root after another, from bit k - 1 down. -/
def isqrtBits : Nat → Nat → Nat → Nat
  | 0, r, _ => r
  | k + 1, r, n =>
    if (r + 2 ^ k) * (r + 2 ^ k) ≤ n then isqrtBits k (r + 2 ^ k) n else isqrtBits k r n

/-- The greatest integer whose square does not exceed n, for n below 2^64 (R30 needs n below 2^30). -/
def isqrt (n : Nat) : Nat :=
  isqrtBits 32 0 n

/-- v brought into lo to hi. -/
def clamp (lo hi v : Int) : Int :=
  max lo (min hi v)

/-- The shortest angular difference a - b, -1800 to 1799 tenths (section 4.4). -/
def angDiff (a b : Int) : Int :=
  (a - b + 1800) % 3600 - 1800

/-- The magnitude of a difference. -/
def mag (v : Int) : Int :=
  v.natAbs

/-- The clockwise distance from angle p to angle q, 0 to 3599 (R64). -/
def cwDist (p q : Int) : Int :=
  (q - p) % 3600

/-! ### Bytes -/

/-- n bytes of a value, least significant first. -/
def leBytes : Nat → Nat → List Byte
  | 0, _ => []
  | n + 1, v => BitVec.ofNat 8 v :: leBytes n (v / 256)

/-- A signed value in 16 bits. -/
def le16 (v : Int) : List Byte :=
  leBytes 2 (BitVec.ofInt 16 v).toNat

/-- A signed value in 32 bits. -/
def le32 (v : Int) : List Byte :=
  leBytes 4 (BitVec.ofInt 32 v).toNat

/-- One byte. -/
def le8 (v : Nat) : List Byte :=
  [BitVec.ofNat 8 v]

/-- The result of a byte entering the check register, most significant bit first (R160). -/
def crcBits : Nat → BitVec 16 → BitVec 16
  | 0, r => r
  | n + 1, r => crcBits n (if r.msb then (r <<< 1) ^^^ 0x1021#16 else r <<< 1)

/-- One byte entering the check (R160). -/
def crcByte (r : BitVec 16) (b : Byte) : BitVec 16 :=
  crcBits 8 (r ^^^ (b.zeroExtend 16 <<< 8))

/-- The check over a run of bytes: polynomial x^16 + x^12 + x^5 + 1, start 0xFFFF, not reflected (R160). -/
def crc (bs : List Byte) : BitVec 16 :=
  bs.foldl crcByte 0xFFFF#16

end Sys2Proof.Machine
end

