-- ==== Sys2Proof/Machine/Per.lean ====
section
/-! DEFINITION. One value for each motion, channel, counting channel, port, master or cam, and the sets of motions. -/

namespace Sys2Proof.Machine

/-- One value per motion. -/
structure PerMotion (α : Type) where
  H : α
  D : α
  S : α
  W : α
  deriving DecidableEq, Repr

/-- The value of one motion. -/
def PerMotion.get {α : Type} (p : PerMotion α) : Motion → α
  | .H => p.H
  | .D => p.D
  | .S => p.S
  | .W => p.W

/-- The values with one motion's replaced. -/
def PerMotion.set {α : Type} (p : PerMotion α) (m : Motion) (v : α) : PerMotion α :=
  match m with
  | .H => { p with H := v }
  | .D => { p with D := v }
  | .S => { p with S := v }
  | .W => { p with W := v }

/-- The same value for all four motions. -/
def PerMotion.all {α : Type} (v : α) : PerMotion α :=
  ⟨v, v, v, v⟩

/-- A value formed for each motion. -/
def PerMotion.of {α : Type} (f : Motion → α) : PerMotion α :=
  ⟨f .H, f .D, f .S, f .W⟩

/-- One value per drive channel. -/
structure PerChannel (α : Type) where
  HOIST : α
  DRAG_WALK : α
  SWING : α
  deriving DecidableEq, Repr

/-- The value of one channel. -/
def PerChannel.get {α : Type} (p : PerChannel α) : Channel → α
  | .HOIST => p.HOIST
  | .DRAG_WALK => p.DRAG_WALK
  | .SWING => p.SWING

/-- The values with one channel's replaced. -/
def PerChannel.set {α : Type} (p : PerChannel α) (c : Channel) (v : α) : PerChannel α :=
  match c with
  | .HOIST => { p with HOIST := v }
  | .DRAG_WALK => { p with DRAG_WALK := v }
  | .SWING => { p with SWING := v }

/-- The same value for all three channels. -/
def PerChannel.all {α : Type} (v : α) : PerChannel α :=
  ⟨v, v, v⟩

/-- A value formed for each channel. -/
def PerChannel.of {α : Type} (f : Channel → α) : PerChannel α :=
  ⟨f .HOIST, f .DRAG_WALK, f .SWING⟩

/-- One value per counting channel. -/
structure PerCount (α : Type) where
  HOIST : α
  DRAG : α
  SWING : α
  CAM_L : α
  CAM_R : α
  deriving DecidableEq, Repr

/-- The value of one counting channel. -/
def PerCount.get {α : Type} (p : PerCount α) : CountCh → α
  | .HOIST => p.HOIST
  | .DRAG => p.DRAG
  | .SWING => p.SWING
  | .CAM_L => p.CAM_L
  | .CAM_R => p.CAM_R

/-- The values with one counting channel's replaced. -/
def PerCount.set {α : Type} (p : PerCount α) (c : CountCh) (v : α) : PerCount α :=
  match c with
  | .HOIST => { p with HOIST := v }
  | .DRAG => { p with DRAG := v }
  | .SWING => { p with SWING := v }
  | .CAM_L => { p with CAM_L := v }
  | .CAM_R => { p with CAM_R := v }

/-- The same value for all five counting channels. -/
def PerCount.all {α : Type} (v : α) : PerCount α :=
  ⟨v, v, v, v, v⟩

/-- One value per port. -/
structure PerPort (α : Type) where
  CAB : α
  DRIVE : α
  SERVICE : α
  deriving DecidableEq, Repr

/-- The value of one port. -/
def PerPort.get {α : Type} (p : PerPort α) : Port → α
  | .CAB => p.CAB
  | .DRIVE => p.DRIVE
  | .SERVICE => p.SERVICE

/-- The values with one port's replaced. -/
def PerPort.set {α : Type} (p : PerPort α) (c : Port) (v : α) : PerPort α :=
  match c with
  | .CAB => { p with CAB := v }
  | .DRIVE => { p with DRIVE := v }
  | .SERVICE => { p with SERVICE := v }

/-- One value per master. -/
structure PerMaster (α : Type) where
  CAB : α
  SERVICE : α
  deriving DecidableEq, Repr

/-- The value of one master. -/
def PerMaster.get {α : Type} (p : PerMaster α) : Master → α
  | .CAB => p.CAB
  | .SERVICE => p.SERVICE

/-- The values with one master's replaced. -/
def PerMaster.set {α : Type} (p : PerMaster α) (c : Master) (v : α) : PerMaster α :=
  match c with
  | .CAB => { p with CAB := v }
  | .SERVICE => { p with SERVICE := v }

/-- One value per cam. -/
structure PerCam (α : Type) where
  L : α
  R : α
  deriving DecidableEq, Repr

/-- The value of one cam. -/
def PerCam.get {α : Type} (p : PerCam α) : Cam → α
  | .L => p.L
  | .R => p.R

/-- The values with one cam's replaced. -/
def PerCam.set {α : Type} (p : PerCam α) (c : Cam) (v : α) : PerCam α :=
  match c with
  | .L => { p with L := v }
  | .R => { p with R := v }

/-- A set of motions (00_scope.md section 4.3). -/
abbrev MotionSet := PerMotion Bool

/-- No motion. -/
def MotionSet.none : MotionSet := PerMotion.all false

/-- H D S W. -/
def MotionSet.full : MotionSet := PerMotion.all true

/-- One motion. -/
def MotionSet.one (m : Motion) : MotionSet := MotionSet.none.set m true

/-- The motions of either set. -/
def MotionSet.union (a b : MotionSet) : MotionSet :=
  PerMotion.of fun m => a.get m || b.get m

/-- The motions of a that are not in b. -/
def MotionSet.minus (a b : MotionSet) : MotionSet :=
  PerMotion.of fun m => a.get m && !b.get m

/-- Whether a set has a motion. -/
def MotionSet.nonEmpty (a : MotionSet) : Bool :=
  a.H || a.D || a.S || a.W

/-- The code of a set: H = 1, D = 2, S = 4, W = 8 (10 section 10.1). -/
def MotionSet.code (a : MotionSet) : Nat :=
  (if a.H then 1 else 0) + (if a.D then 2 else 0) + (if a.S then 4 else 0) + (if a.W then 8 else 0)

/-- The set of a code (section 10.1). -/
def MotionSet.ofCode (n : Nat) : MotionSet :=
  ⟨n % 2 == 1, n / 2 % 2 == 1, n / 4 % 2 == 1, n / 8 % 2 == 1⟩

/-- The four motions in the order H, D, S, W. -/
def motions : List Motion := [.H, .D, .S, .W]

/-- The three channels in the order of the frames (10 section 10.9). -/
def channels : List Channel := [.HOIST, .DRAG_WALK, .SWING]

end Sys2Proof.Machine

namespace Sys2Proof

/-- The place of a counting input in State.lines. -/
def CountLine.index : CountLine → Fin 13
  | .HOIST_A => 0
  | .HOIST_B => 1
  | .DRAG_A => 2
  | .DRAG_B => 3
  | .SWING_A => 4
  | .SWING_B => 5
  | .SWING_Z => 6
  | .CAM_L_A => 7
  | .CAM_L_B => 8
  | .CAM_L_Z => 9
  | .CAM_R_A => 10
  | .CAM_R_B => 11
  | .CAM_R_Z => 12

/-- The number n of DIn (01 section 1.6). -/
def DI.index : DI → Fin 16
  | .ESTOP_OK => 0
  | .HOIST_BRAKE_FB => 1
  | .DRAG_BRAKE_FB => 2
  | .SWING_BRAKE_FB => 3
  | .WALK_BRAKE_FB => 4
  | .XFER_DIG_FB => 5
  | .XFER_WALK_FB => 6
  | .HOIST_MARK => 7
  | .DRAG_MARK => 8
  | .OVERHOIST_SW => 9
  | .BOOM_JACK_SW => 10
  | .TUB_SEATED => 11
  | .LOCAL_KEY => 12
  | .LUBE_OK => 13
  | .AUX1 => 14
  | .AUX2 => 15

end Sys2Proof
end

