-- ==== Sys2Proof/Machine/Params.lean ====
section
/-! DEFINITION. The parameters of the working profile: ids, ranges, defaults and gates of 11_profiles.md section 11.5. -/

namespace Sys2Proof.Machine

/-- The parameters of 11_profiles.md section 11.5 but for the store group, in the order of their ids. -/
inductive Param
  | CHORD_LEN
  | CHORD_COS
  | CHORD_SIN
  | FAIRLEAD_X
  | FAIRLEAD_Z
  | HOIST_SCALE
  | DRAG_SCALE
  | HOIST_MARK_LEN
  | DRAG_MARK_LEN
  | MARK_TOL
  | GEO_PERIOD
  | GEO_HOLD_TIME
  | HOIST_MIN_LEN
  | HOIST_MAX_LEN
  | DRAG_MIN_LEN
  | DRAG_MAX_LEN
  | HOIST_SLOW_SPAN
  | DRAG_SLOW_SPAN
  | JACK_A
  | JACK_H
  | JACK_H_STOP
  | CREEP
  | SWING_CPR
  | SWING_INDEX_ANGLE
  | SWING_INDEX_TOL
  | SWING_APPROACH_SPAN
  | LOAD_ON
  | LOAD_OFF
  | STEER_LIMIT
  | REF_PERIOD
  | ACCEL_H
  | ACCEL_DW
  | ACCEL_S
  | QSTOP_RATE
  | PROOF_H
  | PROOF_D
  | PROOF_S
  | PROOF_W
  | PROOF_TIME
  | OPEN_TIME
  | SET_DELAY
  | CLOSE_TIME
  | STANDSTILL_H
  | STANDSTILL_D
  | STANDSTILL_S
  | STANDSTILL_CL
  | STANDSTILL_CR
  | OVERSPEED_H
  | OVERSPEED_D
  | OVERSPEED_S
  | TRANSFER_TIME
  | GROUND_Z
  | CAM_CPR
  | CAM_MODE
  | CAM_INDEX_ANGLE
  | CAM_INDEX_TOL
  | PHASE_1
  | PHASE_2
  | PHASE_3
  | PHASE_4
  | PARK_WINDOW
  | PARK_SPAN
  | SKEW_LIMIT
  | LUBE_GRACE
  | SHARE_H
  | SHARE_DW
  | SHARE_S
  | BUDGET_NORMAL
  | BUDGET_DIP
  | CURTAIL_STEP
  | CURTAIL_BAND
  | CURTAIL_FLOOR_H
  | CURTAIL_FLOOR_DW
  | CURTAIL_FLOOR_S
  | CURTAIL_ORDER
  | PATTERN_PERIOD
  | HORN_MASK_TRIP
  | HORN_MASK_STOP
  | HORN_MASK_WARN
  | BUZZER_MASK_TRIP
  | BUZZER_MASK_STOP
  | BUZZER_MASK_WARN
  | RED_MASK_TRIP
  | RED_MASK_STOP
  | RED_MASK_WARN
  | AMBER_MASK_TRIP
  | AMBER_MASK_STOP
  | AMBER_MASK_WARN
  | ENVELOPE_ON
  | ENVELOPE_STEP
  | AUX1_CLASS
  | AUX2_CLASS
  | AUX1_SCOPE
  | AUX2_SCOPE
  | AUX1_ACTIVE
  | AUX2_ACTIVE
  | TREND_SLOW
  | TREND_FAST
  | TREND_POST
  | DEMAND_HOLD
  | SERVICE_TIMEOUT
  | DRIVE_PERIOD
  | STATUS_CAB
  | STATUS_SERVICE
  | FILTER_H
  | FILTER_D
  | FILTER_S
  | FILTER_CL
  | FILTER_CR
  | DEBOUNCE_1
  | DEBOUNCE_2
  | DEBOUNCE_3
  | DEBOUNCE_4
  | DEBOUNCE_5
  | DEBOUNCE_6
  | DEBOUNCE_7
  | DEBOUNCE_8
  | DEBOUNCE_9
  | DEBOUNCE_10
  | DEBOUNCE_11
  | DEBOUNCE_12
  | DEBOUNCE_13
  | DEBOUNCE_14
  | DEBOUNCE_15
  deriving DecidableEq, Repr

/-- One row of the parameter table: id, least and greatest value, default, and whether its write is gated (G). -/
structure ParamRow where
  id : Nat
  lo : Int
  hi : Int
  dflt : Int
  gated : Bool
  deriving DecidableEq, Repr

/-- The parameter table (section 11.5). -/
def Param.row : Param → ParamRow
  | .CHORD_LEN => ⟨0x0101, 1000, 20000, 9000, true⟩
  | .CHORD_COS => ⟨0x0102, -32768, 32767, 26214, true⟩
  | .CHORD_SIN => ⟨0x0103, -32768, 32767, 19661, true⟩
  | .FAIRLEAD_X => ⟨0x0104, -5000, 5000, 1200, true⟩
  | .FAIRLEAD_Z => ⟨0x0105, 0, 5000, 300, true⟩
  | .HOIST_SCALE => ⟨0x0106, 1, 65535, 16384, true⟩
  | .DRAG_SCALE => ⟨0x0107, 1, 65535, 16384, true⟩
  | .HOIST_MARK_LEN => ⟨0x0108, 0, 30000, 2000, true⟩
  | .DRAG_MARK_LEN => ⟨0x0109, 0, 30000, 3000, true⟩
  | .MARK_TOL => ⟨0x010A, 1, 1000, 50, true⟩
  | .GEO_PERIOD => ⟨0x010B, 5, 50, 10, true⟩
  | .GEO_HOLD_TIME => ⟨0x010C, 100, 10000, 2000, true⟩
  | .HOIST_MIN_LEN => ⟨0x0201, 0, 30000, 1500, false⟩
  | .HOIST_MAX_LEN => ⟨0x0202, 0, 30000, 28000, false⟩
  | .DRAG_MIN_LEN => ⟨0x0203, 0, 30000, 1000, false⟩
  | .DRAG_MAX_LEN => ⟨0x0204, 0, 30000, 28000, false⟩
  | .HOIST_SLOW_SPAN => ⟨0x0205, 10, 5000, 500, false⟩
  | .DRAG_SLOW_SPAN => ⟨0x0206, 10, 5000, 500, false⟩
  | .JACK_A => ⟨0x0207, 0, 30000, 6000, false⟩
  | .JACK_H => ⟨0x0208, 0, 30000, 800, false⟩
  | .JACK_H_STOP => ⟨0x0209, 0, 30000, 300, false⟩
  | .CREEP => ⟨0x020A, 10, 300, 50, false⟩
  | .SWING_CPR => ⟨0x0301, 1000, 1000000, 360000, true⟩
  | .SWING_INDEX_ANGLE => ⟨0x0302, 0, 3599, 0, false⟩
  | .SWING_INDEX_TOL => ⟨0x0303, 1, 300, 20, false⟩
  | .SWING_APPROACH_SPAN => ⟨0x0304, 10, 1800, 150, false⟩
  | .LOAD_ON => ⟨0x0305, 0, 2000, 400, false⟩
  | .LOAD_OFF => ⟨0x0306, 0, 2000, 300, false⟩
  | .STEER_LIMIT => ⟨0x0307, 0, 1000, 100, false⟩
  | .REF_PERIOD => ⟨0x0401, 5, 50, 10, false⟩
  | .ACCEL_H => ⟨0x0402, 100, 5000, 1000, false⟩
  | .ACCEL_DW => ⟨0x0403, 100, 5000, 1000, false⟩
  | .ACCEL_S => ⟨0x0404, 100, 5000, 1000, false⟩
  | .QSTOP_RATE => ⟨0x0405, 500, 10000, 4000, false⟩
  | .PROOF_H => ⟨0x0406, 0, 1000, 300, false⟩
  | .PROOF_D => ⟨0x0407, 0, 1000, 200, false⟩
  | .PROOF_S => ⟨0x0408, 0, 1000, 0, false⟩
  | .PROOF_W => ⟨0x0409, 0, 1000, 0, false⟩
  | .PROOF_TIME => ⟨0x040A, 100, 5000, 1000, false⟩
  | .OPEN_TIME => ⟨0x040B, 50, 5000, 500, false⟩
  | .SET_DELAY => ⟨0x040C, 10, 5000, 300, false⟩
  | .CLOSE_TIME => ⟨0x040D, 50, 5000, 800, false⟩
  | .STANDSTILL_H => ⟨0x040E, 20, 1000, 100, false⟩
  | .STANDSTILL_D => ⟨0x040F, 20, 1000, 100, false⟩
  | .STANDSTILL_S => ⟨0x0410, 20, 1000, 100, false⟩
  | .STANDSTILL_CL => ⟨0x0411, 20, 1000, 100, false⟩
  | .STANDSTILL_CR => ⟨0x0412, 20, 1000, 100, false⟩
  | .OVERSPEED_H => ⟨0x0413, 100, 1000000, 20000, false⟩
  | .OVERSPEED_D => ⟨0x0414, 100, 1000000, 20000, false⟩
  | .OVERSPEED_S => ⟨0x0415, 100, 1000000, 20000, false⟩
  | .TRANSFER_TIME => ⟨0x0501, 500, 10000, 3000, false⟩
  | .GROUND_Z => ⟨0x0502, -5000, 5000, 200, false⟩
  | .CAM_CPR => ⟨0x0503, 100, 100000, 3600, true⟩
  | .CAM_MODE => ⟨0x0504, 0, 1, 0, true⟩
  | .CAM_INDEX_ANGLE => ⟨0x0505, 0, 3599, 0, false⟩
  | .CAM_INDEX_TOL => ⟨0x0506, 1, 300, 30, false⟩
  | .PHASE_1 => ⟨0x0507, 1, 3599, 600, false⟩
  | .PHASE_2 => ⟨0x0508, 1, 3599, 1500, false⟩
  | .PHASE_3 => ⟨0x0509, 1, 3599, 2400, false⟩
  | .PHASE_4 => ⟨0x050A, 1, 3599, 3000, false⟩
  | .PARK_WINDOW => ⟨0x050B, 0, 300, 20, false⟩
  | .PARK_SPAN => ⟨0x050C, 10, 1800, 300, false⟩
  | .SKEW_LIMIT => ⟨0x050D, 1, 900, 50, false⟩
  | .LUBE_GRACE => ⟨0x050E, 500, 30000, 5000, false⟩
  | .SHARE_H => ⟨0x0601, 0, 1000, 450, false⟩
  | .SHARE_DW => ⟨0x0602, 0, 1000, 350, false⟩
  | .SHARE_S => ⟨0x0603, 0, 1000, 200, false⟩
  | .BUDGET_NORMAL => ⟨0x0604, 0, 1000, 850, false⟩
  | .BUDGET_DIP => ⟨0x0605, 0, 1000, 600, false⟩
  | .CURTAIL_STEP => ⟨0x0606, 1, 200, 20, false⟩
  | .CURTAIL_BAND => ⟨0x0607, 0, 500, 50, false⟩
  | .CURTAIL_FLOOR_H => ⟨0x0608, 0, 1000, 300, false⟩
  | .CURTAIL_FLOOR_DW => ⟨0x0609, 0, 1000, 300, false⟩
  | .CURTAIL_FLOOR_S => ⟨0x060A, 0, 1000, 300, false⟩
  | .CURTAIL_ORDER => ⟨0x060B, 0, 63, 27, false⟩
  | .PATTERN_PERIOD => ⟨0x0701, 1, 16, 8, false⟩
  | .HORN_MASK_TRIP => ⟨0x0702, 0, 65535, 255, false⟩
  | .HORN_MASK_STOP => ⟨0x0703, 0, 65535, 51, false⟩
  | .HORN_MASK_WARN => ⟨0x0704, 0, 65535, 1, false⟩
  | .BUZZER_MASK_TRIP => ⟨0x0705, 0, 65535, 255, false⟩
  | .BUZZER_MASK_STOP => ⟨0x0706, 0, 65535, 51, false⟩
  | .BUZZER_MASK_WARN => ⟨0x0707, 0, 65535, 3, false⟩
  | .RED_MASK_TRIP => ⟨0x0708, 0, 65535, 255, false⟩
  | .RED_MASK_STOP => ⟨0x0709, 0, 65535, 15, false⟩
  | .RED_MASK_WARN => ⟨0x070A, 0, 65535, 0, false⟩
  | .AMBER_MASK_TRIP => ⟨0x070B, 0, 65535, 0, false⟩
  | .AMBER_MASK_STOP => ⟨0x070C, 0, 65535, 0, false⟩
  | .AMBER_MASK_WARN => ⟨0x070D, 0, 65535, 15, false⟩
  | .ENVELOPE_ON => ⟨0x070E, 0, 1, 1, false⟩
  | .ENVELOPE_STEP => ⟨0x070F, 500, 1000, 1000, false⟩
  | .AUX1_CLASS => ⟨0x0710, 2, 4, 2, false⟩
  | .AUX2_CLASS => ⟨0x0711, 2, 4, 2, false⟩
  | .AUX1_SCOPE => ⟨0x0712, 0, 15, 0, false⟩
  | .AUX2_SCOPE => ⟨0x0713, 0, 15, 0, false⟩
  | .AUX1_ACTIVE => ⟨0x0714, 0, 1, 0, false⟩
  | .AUX2_ACTIVE => ⟨0x0715, 0, 1, 0, false⟩
  | .TREND_SLOW => ⟨0x0801, 50, 5000, 200, false⟩
  | .TREND_FAST => ⟨0x0802, 5, 200, 20, false⟩
  | .TREND_POST => ⟨0x0803, 1, 255, 64, false⟩
  | .DEMAND_HOLD => ⟨0x0901, 50, 1000, 200, false⟩
  | .SERVICE_TIMEOUT => ⟨0x0902, 200, 5000, 1000, false⟩
  | .DRIVE_PERIOD => ⟨0x0903, 5, 50, 10, false⟩
  | .STATUS_CAB => ⟨0x0904, 20, 1000, 100, false⟩
  | .STATUS_SERVICE => ⟨0x0905, 100, 5000, 500, false⟩
  | .FILTER_H => ⟨0x0A01, 4, 256, 16, false⟩
  | .FILTER_D => ⟨0x0A02, 4, 256, 16, false⟩
  | .FILTER_S => ⟨0x0A03, 4, 256, 16, false⟩
  | .FILTER_CL => ⟨0x0A04, 4, 256, 16, false⟩
  | .FILTER_CR => ⟨0x0A05, 4, 256, 16, false⟩
  | .DEBOUNCE_1 => ⟨0x0A11, 1, 64, 16, false⟩
  | .DEBOUNCE_2 => ⟨0x0A12, 1, 64, 16, false⟩
  | .DEBOUNCE_3 => ⟨0x0A13, 1, 64, 16, false⟩
  | .DEBOUNCE_4 => ⟨0x0A14, 1, 64, 16, false⟩
  | .DEBOUNCE_5 => ⟨0x0A15, 1, 64, 16, false⟩
  | .DEBOUNCE_6 => ⟨0x0A16, 1, 64, 16, false⟩
  | .DEBOUNCE_7 => ⟨0x0A17, 1, 64, 16, false⟩
  | .DEBOUNCE_8 => ⟨0x0A18, 1, 64, 16, false⟩
  | .DEBOUNCE_9 => ⟨0x0A19, 1, 64, 16, false⟩
  | .DEBOUNCE_10 => ⟨0x0A1A, 1, 64, 16, false⟩
  | .DEBOUNCE_11 => ⟨0x0A1B, 1, 64, 16, false⟩
  | .DEBOUNCE_12 => ⟨0x0A1C, 1, 64, 16, false⟩
  | .DEBOUNCE_13 => ⟨0x0A1D, 1, 64, 16, false⟩
  | .DEBOUNCE_14 => ⟨0x0A1E, 1, 64, 16, false⟩
  | .DEBOUNCE_15 => ⟨0x0A1F, 1, 64, 16, false⟩

/-- The parameters of the groups 1 to 4. -/
def Param.groups1to4 : List Param :=
  [.CHORD_LEN, .CHORD_COS, .CHORD_SIN, .FAIRLEAD_X,
    .FAIRLEAD_Z, .HOIST_SCALE, .DRAG_SCALE, .HOIST_MARK_LEN,
    .DRAG_MARK_LEN, .MARK_TOL, .GEO_PERIOD, .GEO_HOLD_TIME,
    .HOIST_MIN_LEN, .HOIST_MAX_LEN, .DRAG_MIN_LEN, .DRAG_MAX_LEN,
    .HOIST_SLOW_SPAN, .DRAG_SLOW_SPAN, .JACK_A, .JACK_H,
    .JACK_H_STOP, .CREEP, .SWING_CPR, .SWING_INDEX_ANGLE,
    .SWING_INDEX_TOL, .SWING_APPROACH_SPAN, .LOAD_ON, .LOAD_OFF,
    .STEER_LIMIT, .REF_PERIOD, .ACCEL_H, .ACCEL_DW,
    .ACCEL_S, .QSTOP_RATE, .PROOF_H, .PROOF_D,
    .PROOF_S, .PROOF_W, .PROOF_TIME, .OPEN_TIME,
    .SET_DELAY, .CLOSE_TIME, .STANDSTILL_H, .STANDSTILL_D,
    .STANDSTILL_S, .STANDSTILL_CL, .STANDSTILL_CR, .OVERSPEED_H,
    .OVERSPEED_D, .OVERSPEED_S]

/-- The parameters of the groups 5 to 7. -/
def Param.groups5to7 : List Param :=
  [.TRANSFER_TIME, .GROUND_Z, .CAM_CPR, .CAM_MODE,
    .CAM_INDEX_ANGLE, .CAM_INDEX_TOL, .PHASE_1, .PHASE_2,
    .PHASE_3, .PHASE_4, .PARK_WINDOW, .PARK_SPAN,
    .SKEW_LIMIT, .LUBE_GRACE, .SHARE_H, .SHARE_DW,
    .SHARE_S, .BUDGET_NORMAL, .BUDGET_DIP, .CURTAIL_STEP,
    .CURTAIL_BAND, .CURTAIL_FLOOR_H, .CURTAIL_FLOOR_DW, .CURTAIL_FLOOR_S,
    .CURTAIL_ORDER, .PATTERN_PERIOD, .HORN_MASK_TRIP, .HORN_MASK_STOP,
    .HORN_MASK_WARN, .BUZZER_MASK_TRIP, .BUZZER_MASK_STOP, .BUZZER_MASK_WARN,
    .RED_MASK_TRIP, .RED_MASK_STOP, .RED_MASK_WARN, .AMBER_MASK_TRIP,
    .AMBER_MASK_STOP, .AMBER_MASK_WARN, .ENVELOPE_ON, .ENVELOPE_STEP,
    .AUX1_CLASS, .AUX2_CLASS, .AUX1_SCOPE, .AUX2_SCOPE,
    .AUX1_ACTIVE, .AUX2_ACTIVE]

/-- The parameters of the groups 8 to 10. -/
def Param.groups8to10 : List Param :=
  [.TREND_SLOW, .TREND_FAST, .TREND_POST, .DEMAND_HOLD,
    .SERVICE_TIMEOUT, .DRIVE_PERIOD, .STATUS_CAB, .STATUS_SERVICE,
    .FILTER_H, .FILTER_D, .FILTER_S, .FILTER_CL,
    .FILTER_CR, .DEBOUNCE_1, .DEBOUNCE_2, .DEBOUNCE_3,
    .DEBOUNCE_4, .DEBOUNCE_5, .DEBOUNCE_6, .DEBOUNCE_7,
    .DEBOUNCE_8, .DEBOUNCE_9, .DEBOUNCE_10, .DEBOUNCE_11,
    .DEBOUNCE_12, .DEBOUNCE_13, .DEBOUNCE_14, .DEBOUNCE_15]

/-- Every parameter, in the order of the ids. -/
def Param.list : List Param :=
  Param.groups1to4 ++ Param.groups5to7 ++ Param.groups8to10

/-- The number of parameters. -/
abbrev numParams : Nat := 124

/-- The place of a parameter in a profile. -/
def Param.index (p : Param) : Fin numParams :=
  ⟨p.ctorIdx, by cases p <;> decide⟩

/-- The parameter of an id, if section 11.5 has one. -/
def Param.ofId (id : Nat) : Option Param :=
  Param.list.find? fun p => p.row.id == id

/-- CURTAIL_ORDER as the three channels it names, first + 4 second + 16 third with 1 HOIST, 2 DRAG_WALK, 3 SWING
(section 11.5). -/
def curtailOrderOf (code : Int) : List Channel :=
  [code % 4, code / 4 % 4, code / 16].filterMap fun n =>
    if n = 1 then some .HOIST else if n = 2 then some .DRAG_WALK else if n = 3 then some .SWING else none

/-- Whether a value is a parameter's: in its range, and among its listed values where it has such (section 11.5). A
CURTAIL_ORDER that does not name each channel once is out of range. -/
def Param.allows (p : Param) (v : Int) : Bool :=
  decide (p.row.lo ≤ v) && decide (v ≤ p.row.hi) &&
    match p with
    | .FILTER_H | .FILTER_D | .FILTER_S | .FILTER_CL | .FILTER_CR => [4, 16, 64, 256].contains v
    | .ENVELOPE_STEP => [500, 1000].contains v
    | .CURTAIL_ORDER =>
      channels.all fun c => (curtailOrderOf v).contains c
    | _ => true

end Sys2Proof.Machine
end

