-- ==== Sys2Proof/Machine/Types.lean ====
section
/-! DEFINITION. The records the blocks hold, each with the rule of spec/ that names it. Plain data throughout. -/

namespace Sys2Proof.Machine

/-! ### Counting unit -/

/-- One input of a counting channel: raw level, accepted level and filter timer (R2). -/
structure CountInput where
  raw : Bool
  accepted : Bool
  timer : Timer
  deriving DecidableEq, Repr

/-- One channel record (R1), with the condition behind COUNT_RANGE_H or COUNT_RANGE_D (R8). -/
structure CountChannel where
  count : Int
  dir : Sign
  stamps : List (BitVec 32)
  speed : Nat
  standstill : Bool
  timer : Timer
  rangeCond : Bool
  deriving DecidableEq, Repr

/-- An index event as the counting unit delivers it to the owner of its channel: the channel, the stamp of the index edge from
the microsecond clock, and the count as it stands when the event is taken (R13). It is passed on and kept by no block. -/
structure IndexEvent where
  ch : CountCh
  stamp : BitVec 32
  count : Int
  deriving DecidableEq, Repr

/-- One discrete input: raw level, debounced level and debounce timer (R14). -/
structure DiscreteInput where
  raw : Bool
  level : Bool
  timer : Timer
  deriving DecidableEq, Repr

/-- The ten output lines (R19). -/
structure Outputs where
  coil : PerMotion Bool
  xfer : Bool
  horn : Bool
  red : Bool
  amber : Bool
  buzzer : Bool
  driveEnable : Bool
  deriving DecidableEq, Repr

/-- The 2 kHz switching of the horn (R20): the demand, the level of the period in progress, and the timer of the next
switching. The line itself is Outputs.horn. -/
structure HornSwitch where
  demand : Bool
  level : Nat
  timer : Timer
  deriving DecidableEq, Repr

/-! ### Rope geometry unit -/

/-- The two ropes. -/
inductive Rope
  | HOIST
  | DRAG
  deriving DecidableEq, Repr

/-- One value per rope. -/
structure PerRope (α : Type) where
  HOIST : α
  DRAG : α
  deriving DecidableEq, Repr

/-- The value of one rope. -/
def PerRope.get {α : Type} (p : PerRope α) : Rope → α
  | .HOIST => p.HOIST
  | .DRAG => p.DRAG

/-- The values with one rope's replaced. -/
def PerRope.set {α : Type} (p : PerRope α) (r : Rope) (v : α) : PerRope α :=
  match r with
  | .HOIST => { p with HOIST := v }
  | .DRAG => { p with DRAG := v }

/-- A rope reference: its state, and the record of mark length M and mark count Cm that the last two carry (R21). -/
inductive RopeRef
  | UNREFERENCED
  | MARKED (M : Int) (Cm : Int)
  | MANUAL (M : Int) (Cm : Int)
  deriving DecidableEq, Repr

/-- The status of a geometry sample (R29). -/
inductive GeoStatus
  | UNREFERENCED
  | RANGE
  | SHORT
  | DRAG_SLACK
  | HOIST_SLACK
  | VALID
  deriving DecidableEq, Repr

/-- The position fields of a bucket record, which are present or absent together (R33). -/
structure Position where
  a : Int
  h : Int
  x : Int
  z : Int
  deriving DecidableEq, Repr

/-- The bucket record (02 section 2.5). -/
structure BucketRecord where
  status : GeoStatus
  lh : Option Int
  ld : Option Int
  pos : Option Position
  age : Nat
  deriving DecidableEq, Repr

/-- The rope geometry unit (R21, R24, R28, R32, R34). -/
structure Geometry where
  ref : PerRope RopeRef
  slip : PerRope Bool
  record : BucketRecord
  sampleTimer : Timer
  holdTimer : Timer
  lost : Bool
  deriving DecidableEq, Repr

/-! ### Hoist and drag limiter -/

/-- The limit record of the hoist and drag limiter (R39). -/
structure Envelope where
  hoistUp : Int
  hoistDown : Int
  dragIn : Int
  dragOut : Int
  hoistTarget : Int
  dragTarget : Int
  hoistTop : Bool
  fairlead : Bool
  jackZone : Bool
  deriving DecidableEq, Repr

/-! ### Swing limiter -/

/-- The load state (R61). -/
inductive LoadState
  | EMPTY
  | LOADED
  deriving DecidableEq, Repr

/-- One entry of a radius table (04 section 4.4.1), each field as a frame carries it. -/
structure RadiusEntry where
  radius : Nat
  emptyLimit : Nat
  loadedLimit : Nat
  deriving DecidableEq, Repr

/-- One sector of a zone table (04 section 4.4.2); the kind is the byte of the frames, 1 NO_ENTRY, 2 SLOW. -/
structure ZoneEntry where
  start : Nat
  stop : Nat
  kind : Nat
  slow : Option Nat
  deriving DecidableEq, Repr

/-- The radius and zone tables in force, or stored in a slot (R62, R64). -/
structure SwingTables where
  radius : List RadiusEntry
  zones : List ZoneEntry
  deriving DecidableEq, Repr

/-- A pending copy: eight places and a count for each table (04 section 4.6.1). -/
structure PendingCopy where
  radius : Vector RadiusEntry 8
  radiusCount : Nat
  zones : Vector ZoneEntry 8
  zoneCount : Nat
  deriving DecidableEq, Repr

/-- The pending state with its copy (04 section 4.6.1). -/
inductive Pending
  | ABSENT
  | EDITING (c : PendingCopy)
  | READY (c : PendingCopy)
  deriving DecidableEq, Repr

/-- The swing record (R56). The active tables stand in the working profile. -/
structure SwingUnit where
  referenced : Bool
  load : LoadState
  slip : Bool
  inZone : Bool
  cw : Int
  ccw : Int
  target : Int
  pending : Pending
  deriving DecidableEq, Repr

/-! ### Channel and brake unit -/

/-- The configuration of the DRAG_WALK channel as the drive reports it (R78). -/
inductive DriveConfig
  | DIG
  | WALK
  | NONE
  deriving DecidableEq, Repr

/-- The feedback of one channel (R78). -/
structure ChannelFeedback where
  speed : Int
  current : Int
  ready : Bool
  fault : Nat
  deriving DecidableEq, Repr

/-- The feedback record (R78). -/
structure Feedback where
  chan : PerChannel ChannelFeedback
  config : DriveConfig
  lineDip : Bool
  stale : Bool
  deriving DecidableEq, Repr

/-- The three channels with an overspeed trip (R98). -/
structure PerSpeed (α : Type) where
  H : α
  D : α
  S : α
  deriving DecidableEq, Repr

/-- What the channel unit keeps between reference periods: outputs (R81), bounded targets (R82, R91), the reference timer
(R81) and the overspeed conditions (R98). -/
structure Drive where
  output : PerChannel Int
  bounded : PerMotion Int
  refTimer : Timer
  overspeed : PerSpeed Bool
  deriving DecidableEq, Repr

/-- The states of a brake sequencer (05 section 5.4). -/
inductive BrakeState
  | SET
  | PROVING
  | OPENING
  | RELEASED
  | CLOSING
  | FAULT
  deriving DecidableEq, Repr

/-- One brake sequencer (R87, R93). -/
structure Brake where
  state : BrakeState
  timer : Timer
  lockout : Bool
  faultCond : Bool
  deriving DecidableEq, Repr

/-! ### Walk unit -/

/-- The transfer state (R100). -/
inductive TransferState
  | DIG
  | TO_WALK
  | WALK
  | TO_DIG
  | TRANSFER_FAULT
  deriving DecidableEq, Repr

/-- DIG or WALK, as a channel-2 mode request or a request's target (R100, R102). -/
inductive DigWalk
  | DIG
  | WALK
  deriving DecidableEq, Repr

/-- The step mode (R100). -/
inductive StepMode
  | SINGLE
  | CONTINUOUS
  deriving DecidableEq, Repr

/-- The sync state of a cam (R111). -/
inductive CamSync
  | UNSYNCED
  | SYNCING
  | SYNCED
  deriving DecidableEq, Repr

/-- One cam record (R111). -/
structure CamRecord where
  sync : CamSync
  field : Nat
  cond : Bool
  deriving DecidableEq, Repr

/-- The step state with the latched direction of travel (R118). -/
inductive StepState
  | ARMED
  | IN_CYCLE (dir : Sign)
  | HELD (dir : Sign)
  deriving DecidableEq, Repr

/-- The walk phase (06 section 6.5). -/
inductive WalkPhase
  | UNKNOWN
  | SHOES_LOWERING
  | HOUSE_LIFTING
  | STEPPING
  | HOUSE_SETTING
  | SHOES_RAISING
  deriving DecidableEq, Repr

/-- The walk unit (R100, R111, R115, R117 to R121). -/
structure Walk where
  transfer : TransferState
  coil : Bool
  modeReq : DigWalk
  timer : Timer
  stepMode : StepMode
  timeoutCond : Bool
  positionCond : Bool
  cams : PerCam CamRecord
  skewCond : Bool
  step : StepState
  walkOutput : Int
  lubeTimer : Timer
  lubeCond : Bool
  steering : Bool
  limit : Int
  target : Int
  deriving DecidableEq, Repr

/-! ### Power budget unit -/

/-- The budget record (R122). -/
structure Budget where
  level : PerChannel Int
  curtail : Bool
  dip : Bool
  deriving DecidableEq, Repr

/-! ### Alarm unit -/

/-- The 45 alarm codes in the order of their numbers (08 section 8.1). -/
inductive AlarmCode
  | ESTOP
  | DRIVE_LINK_LOST
  | DRIVE_FAULT_H
  | DRIVE_FAULT_DW
  | DRIVE_FAULT_S
  | BRAKE_FAULT_H
  | BRAKE_FAULT_D
  | BRAKE_FAULT_S
  | BRAKE_FAULT_W
  | OVERHOIST
  | BOOM_JACK
  | OVERSPEED_H
  | OVERSPEED_D
  | OVERSPEED_S
  | TRANSFER_TIMEOUT
  | TRANSFER_POSITION
  | CAM_SKEW
  | CAB_LINK_LOST
  | SERVICE_LINK_LOST
  | PROOF_FAIL_H
  | PROOF_FAIL_D
  | LUBE_LOW
  | AUX_1
  | AUX_2
  | GEOMETRY_LOST
  | ROPE_UNREF
  | ROPE_SLIP_H
  | ROPE_SLIP_D
  | COUNT_RANGE_H
  | COUNT_RANGE_D
  | SWING_UNREF
  | SWING_SLIP
  | SWING_IN_ZONE
  | CAM_SYNC_L
  | CAM_SYNC_R
  | LINE_DIP
  | PROFILE_FALLBACK
  | PROFILE_SAVE_FAIL
  | HOIST_TOP_LIMIT
  | DRAG_FAIRLEAD_LIMIT
  | JACK_ZONE
  | TABLES_PENDING
  | POWER_CURTAIL
  | TREND_FROZEN
  | ZERO_PASS_WAIT
  deriving DecidableEq, Repr

/-- The alarm classes, highest rank first (R130). -/
inductive AlarmClass
  | TRIP
  | STOP
  | WARN
  | INFO
  deriving DecidableEq, Repr

/-- The states of an entry (08 section 8.2). -/
inductive EntryState
  | ACTIVE_UNACK
  | ACTIVE_ACK
  | CLEARED_UNACK
  | CLEARED_LATCHED
  deriving DecidableEq, Repr

/-- One entry of the alarm list (08 section 8.2). -/
structure AlarmEntry where
  code : AlarmCode
  cls : AlarmClass
  scope : MotionSet
  state : EntryState
  first : BitVec 32
  last : BitVec 32
  count : Nat
  detail : Int
  deriving DecidableEq, Repr

/-- The alarm unit (R131, R145). -/
structure Alarms where
  list : List AlarmEntry
  overflow : Bool
  counter : BitVec 8
  silence : Bool
  envLevel : Nat
  envTimer : Timer
  step : Nat
  patternTimer : Timer
  deriving DecidableEq, Repr

/-! ### Trend recorder -/

/-- The recorder states (R152). -/
inductive TrendState
  | ARMED
  | POST_TRIGGER
  | FROZEN
  deriving DecidableEq, Repr

/-- One trend record (09 section 9.2). -/
structure TrendRecord where
  time : BitVec 48
  status : GeoStatus
  lh : Option Int
  ld : Option Int
  x : Option Int
  z : Option Int
  angle : Int
  referenced : Bool
  output : PerChannel Int
  current : PerChannel Int
  stale : Bool
  brakes : PerMotion BrakeState
  transfer : TransferState
  phase : WalkPhase
  highest : Option AlarmClass
  marker : Option Nat
  deriving DecidableEq, Repr

/-- The trend recorder (R151, R152). -/
structure Trend where
  ring : List TrendRecord
  state : TrendState
  timer : Timer
  post : Nat
  frozen : Bool
  deriving DecidableEq, Repr

/-! ### Port unit -/

/-- The results of a REPLY (10 section 10.3). -/
inductive ReplyResult
  | OK
  | UNKNOWN_KIND
  | BAD_LENGTH
  | NOT_HOLDER
  | REFUSED_STATE
  | RANGE
  | BUSY
  | READ_ONLY
  deriving DecidableEq, Repr

/-- What a REFERENCE frame carries for one channel (R86). -/
structure RefBlock where
  output : Int
  enable : Bool
  prove : Bool
  qstop : Bool
  deriving DecidableEq, Repr

/-- The summary of the alarm list (R138). -/
structure AlarmSummary where
  length : Nat
  unacked : Nat
  highest : Option AlarmClass
  counter : BitVec 8
  overflow : Bool
  deriving DecidableEq, Repr

/-- What a STATUS frame carries (R173). -/
structure StatusContent where
  bucket : BucketRecord
  angle : Int
  referenced : Bool
  output : PerChannel Int
  brakes : PerMotion BrakeState
  transfer : TransferState
  phase : WalkPhase
  camSync : PerCam CamSync
  stepMode : StepMode
  inStep : Bool
  serviceHeld : MotionSet
  armed : MotionSet
  level : PerChannel Int
  alarms : AlarmSummary
  trend : TrendState
  deriving DecidableEq, Repr

/-- ACTIVE or PENDING, in a TABLE_READ (R76). -/
inductive TableCopy
  | ACTIVE
  | PENDING
  deriving DecidableEq, Repr

/-- The entries a TABLE_VALUE carries (R76). -/
inductive TableContent
  | radius (es : List RadiusEntry)
  | zones (es : List ZoneEntry)
  deriving DecidableEq, Repr

/-- The outgoing frames, with their content fixed when they are formed (R162). -/
inductive TxFrame
  | status (c : StatusContent)
  | reply (kind : Byte) (result : ReplyResult) (detail : Int)
  | alarmPage (length : Nat) (counter : BitVec 8) (overflow : Bool) (entries : List AlarmEntry)
  | paramValue (id : Nat) (value : Int)
  | tableValue (copy : TableCopy) (pending : Nat) (content : TableContent)
  | trendPage (state : TrendState) (length : Nat) (trigger : Option Nat) (records : List TrendRecord)
  | reference (chans : PerChannel RefBlock) (mode : DigWalk)
  deriving DecidableEq, Repr

/-- The receiver states with the bytes stored so far (R159). -/
inductive Receiver
  | HUNT
  | KIND
  | LENGTH (kind : Byte)
  | PAYLOAD (kind : Byte) (length : Nat) (got : List Byte)
  | CHECK_LOW (kind : Byte) (payload : List Byte)
  | CHECK_HIGH (kind : Byte) (payload : List Byte) (low : Byte)
  deriving DecidableEq, Repr

/-- One port: receiver, transmit queue (the first frame is the one being sent), straps (true when open) and the bit rate
read from them at the end of reset (R159, R162, 10 section 10.2). -/
structure PortLine where
  rx : Receiver
  tx : List TxFrame
  strapA : Bool
  strapB : Bool
  rate : BitRate
  deriving DecidableEq, Repr

/-- A master's demand record (10 section 10.4). -/
structure DemandRecord where
  value : PerMotion Int
  timer : Timer
  expired : Bool
  deriving DecidableEq, Repr

/-- The drive link (R170). -/
structure DriveLink where
  inStep : Bool
  lock : Nat
  miss : Nat
  timer : Timer
  lost : Bool
  deriving DecidableEq, Repr

/-- The port unit (R163 to R174). -/
structure Ports where
  line : PerPort PortLine
  authority : PerMotion Master
  interlock : MotionSet
  zeroPassWait : Bool
  demand : PerMaster DemandRecord
  cabContact : Bool
  cabLost : Bool
  serviceTimer : Timer
  serviceLost : Bool
  link : DriveLink
  statusTimer : PerMaster Timer
  deriving DecidableEq, Repr

/-! ### Profile store -/

/-- A complete profile: every parameter of 11 section 11.5 but the store group, and the two tables (R175). -/
structure Profile where
  vals : Vector Int numParams
  tables : SwingTables
  deriving DecidableEq, Repr

/-- The value of a parameter. -/
def Profile.get (p : Profile) (q : Param) : Int :=
  p.vals[q.index]

/-- The profile with a parameter's value replaced. -/
def Profile.set (p : Profile) (q : Param) (v : Int) : Profile :=
  { p with vals := p.vals.set q.index v }

/-- A writable slot: its content and its stored check word (R175). -/
structure Slot where
  content : Profile
  check : BitVec 16
  deriving DecidableEq, Repr

/-- The save state: IDLE, or WRITING the snapshot into the slot (R178). -/
inductive SaveState
  | IDLE
  | WRITING (slot : Nat) (snapshot : Profile)
  deriving DecidableEq, Repr

/-- The profile store (R175). Slot 0 is Profile.factory. The number of saves accepted so far, which names the write a
completion belongs to, is the model's own (R179; log entry 22). -/
structure Store where
  slot1 : Slot
  slot2 : Slot
  slot3 : Slot
  startSlot : Nat
  startCheck : BitVec 16
  working : Profile
  loaded : Nat
  dirty : Bool
  save : SaveState
  writes : Nat
  saveTimer : Timer
  saveFail : Bool
  fallback : Bool
  deriving DecidableEq, Repr

end Sys2Proof.Machine
end

