-- ==== Sys2Proof/Machine/CheckWord.lean ====
section
/-! DEFINITION. The check words of the profile store: the bytes of a slot's content, the word formed over them, and what
makes a slot and the start slot valid. -/

namespace Sys2Proof.Machine

/-! ### The bytes of a profile -/

/-- An entry of a radius table (10 section 10.9). -/
def RadiusEntry.bytes (e : RadiusEntry) : List Byte :=
  leBytes 2 e.radius ++ leBytes 2 e.emptyLimit ++ leBytes 2 e.loadedLimit

/-- A sector of a zone table; an absent slow limit is sent as 0 (R76, 10 section 10.9). -/
def ZoneEntry.bytes (z : ZoneEntry) : List Byte :=
  leBytes 2 z.start ++ leBytes 2 z.stop ++ le8 z.kind ++ leBytes 2 (z.slow.getD 0)

/-- The bytes of both tables, each after its count (R175; log entry 10). -/
def SwingTables.image (t : SwingTables) : List Byte :=
  le8 t.radius.length ++ t.radius.flatMap RadiusEntry.bytes ++ le8 t.zones.length ++ t.zones.flatMap ZoneEntry.bytes

/-- The bytes of a profile, over which a slot's check word is formed: every parameter in the order of 11 section 11.5,
then the tables (R175). The spec does not give these bytes: they are the model's choice (log entry 10). -/
def Profile.image (w : Profile) : List Byte :=
  w.vals.toList.flatMap le32 ++ w.tables.image

/-! ### Slots -/

/-- The check word of a profile: the check of the port frames over its bytes (R160, R175). -/
def Profile.checkWord (w : Profile) : BitVec 16 :=
  crc w.image

/-- A slot is valid when its stored word agrees with its content (R175). -/
def Slot.valid (v : Slot) : Bool :=
  v.check == v.content.checkWord

/-- The slot that a matching completion leaves: the snapshot with its check word (R179). -/
def Slot.saved (w : Profile) : Slot :=
  ⟨w, w.checkWord⟩

/-- A slot marked invalid: its stored word is made to disagree (R178; log entry 10). -/
def Slot.marked (v : Slot) : Slot :=
  { v with check := ~~~ v.content.checkWord }

/-! ### The start slot -/

/-- The check word of a start slot (R175; log entry 10). -/
def startWord (n : Nat) : BitVec 16 :=
  crc (le8 n)

/-- The start slot's own check word agrees (R176). -/
def Store.startOk (st : Store) : Bool :=
  st.startCheck == startWord st.startSlot

end Sys2Proof.Machine
end

