-- ==== Sys2Proof/Machine/ResetValues.lean ====
section
/-! DEFINITION. The values each block takes at reset, before the conditions present at reset are raised. Those that
depend on a pin or on the loaded profile take it as an argument. -/

namespace Sys2Proof.Machine

/-- The default of every parameter, in order (11 section 11.5). -/
def factoryVals : Vector Int numParams :=
  ⟨(Param.list.map fun p => p.row.dflt).toArray, by simp [Param.list, Param.groups1to4, Param.groups5to7, Param.groups8to10]⟩

/-- Slot 0: the factory values, both swing tables empty (11 section 11.1). -/
def Profile.factory : Profile :=
  ⟨factoryVals, ⟨[], []⟩⟩

/-- A time of ms milliseconds from a time in half-microseconds. -/
def afterMs (time : Nat) (ms : Int) : Timer :=
  some (time + 2000 * ms.toNat)

/-- A time of us microseconds from a time in half-microseconds. -/
def afterUs (time : Nat) (us : Int) : Timer :=
  some (time + 2 * us.toNat)

/-- A counting input at reset: the accepted level is the raw level (R1). -/
def CountInput.atReset (raw : Bool) : CountInput :=
  ⟨raw, raw, none⟩

/-- A channel record at reset (R1). -/
def CountChannel.atReset : CountChannel :=
  ⟨0, .plus, [], 0, true, none, false⟩

/-- A discrete input at reset: the debounced level is the raw level (R16). -/
def DiscreteInput.atReset (raw : Bool) : DiscreteInput :=
  ⟨raw, raw, none⟩

/-- The output lines at reset: DO0 to DO8 off, DO9 as ESTOP_OK stands (R19). -/
def Outputs.atReset (estopOk : Bool) : Outputs :=
  ⟨PerMotion.all false, false, false, false, false, false, estopOk⟩

/-- The horn switching at reset (R20). -/
def HornSwitch.atReset : HornSwitch :=
  ⟨false, 1, none⟩

/-- The geometry unit at reset (R36). The slip conditions are absent after a RESET; the reset that R24 says leaves them
present is read as an ALARM_RESET (log entry 31). -/
def Geometry.atReset (p : Profile) : Geometry :=
  { ref := ⟨.UNREFERENCED, .UNREFERENCED⟩
    slip := ⟨false, false⟩
    record := ⟨.UNREFERENCED, none, none, none, 0⟩
    sampleTimer := afterMs 0 (p.get .GEO_PERIOD)
    holdTimer := afterMs 0 (p.get .GEO_HOLD_TIME)
    lost := false }

/-- The limit record at reset (R39). -/
def Envelope.atReset : Envelope :=
  ⟨0, 0, 0, 0, 0, 0, false, false, false⟩

/-- The swing record at reset (R56, R77). -/
def SwingUnit.atReset : SwingUnit :=
  ⟨false, .EMPTY, false, false, 0, 0, 0, .ABSENT⟩

/-- The feedback record at reset (R78). -/
def Feedback.atReset : Feedback :=
  ⟨PerChannel.all ⟨0, 0, false, 0⟩, .NONE, false, true⟩

/-- The channel unit at reset (R81, R98). -/
def Drive.atReset (p : Profile) : Drive :=
  ⟨PerChannel.all 0, PerMotion.all 0, afterMs 0 (p.get .REF_PERIOD), ⟨false, false, false⟩⟩

/-- A brake sequencer at reset: SET, or FAULT when its feedback is on (R87). -/
def Brake.atReset (feedback : Bool) : Brake :=
  ⟨if feedback then .FAULT else .SET, none, false, feedback⟩

/-- The walk unit at reset, for a contactor that does or does not read the dig position (R100, R111, R115, R118 to R121).
The TRANSFER_POSITION condition is present when it is not in dig, since it is raised at reset. -/
def Walk.atReset (dig : Bool) : Walk :=
  { transfer := if dig then .DIG else .TRANSFER_FAULT
    coil := false
    modeReq := .DIG
    timer := none
    stepMode := .SINGLE
    timeoutCond := false
    positionCond := !dig
    cams := ⟨⟨.UNSYNCED, 0, false⟩, ⟨.UNSYNCED, 0, false⟩⟩
    skewCond := false
    step := .ARMED
    walkOutput := 0
    lubeTimer := none
    lubeCond := false
    steering := false
    limit := 0
    target := 0 }

/-- The budget record at reset (R122). -/
def Budget.atReset : Budget :=
  ⟨PerChannel.all 1000, false, false⟩

/-- The alarm unit at reset, before the first raise (R131, R145). -/
def Alarms.atReset : Alarms :=
  ⟨[], false, 0, false, 1, none, 0, afterMs 0 125⟩

/-- The trend recorder at reset, before the first trigger (R152). -/
def Trend.atReset (p : Profile) : Trend :=
  ⟨[], .ARMED, afterMs 0 (p.get .TREND_SLOW), 0, false⟩

/-- The bit rate read from the straps at the end of reset (10 section 10.2). -/
def strapsRate (a b : Bool) : BitRate :=
  if a && b then .b115200 else Config.strapRate a b

/-- A port at reset (R174). -/
def PortLine.atReset (a b : Bool) : PortLine :=
  ⟨.HUNT, [], a, b, strapsRate a b⟩

/-- The port unit at reset (R174). -/
def Ports.atReset (line : PerPort PortLine) (p : Profile) : Ports :=
  { line := ⟨.atReset line.CAB.strapA line.CAB.strapB, .atReset line.DRIVE.strapA line.DRIVE.strapB,
      .atReset line.SERVICE.strapA line.SERVICE.strapB⟩
    authority := PerMotion.all .CAB
    interlock := MotionSet.full
    zeroPassWait := false
    demand := ⟨⟨PerMotion.all 0, none, false⟩, ⟨PerMotion.all 0, none, false⟩⟩
    cabContact := false
    cabLost := false
    serviceTimer := none
    serviceLost := false
    link := ⟨false, 0, 0, none, false⟩
    statusTimer := ⟨afterMs 0 (p.get .STATUS_CAB), afterMs 0 (p.get .STATUS_SERVICE)⟩ }

/-- A slot that has never been saved: its stored word disagrees with its content (log entry 9). -/
def Slot.blank : Slot :=
  ⟨Profile.factory, 0⟩

/-- The store before its first start-up (log entry 9). -/
def Store.blank : Store :=
  { slot1 := Slot.blank
    slot2 := Slot.blank
    slot3 := Slot.blank
    startSlot := 0
    startCheck := startWord 0
    working := Profile.factory
    loaded := 0
    dirty := false
    save := .IDLE
    writes := 0
    saveTimer := none
    saveFail := false
    fallback := false }

end Sys2Proof.Machine
end

