-- ==== Sys2Proof/Machine/State.lean ====
section
/-! DEFINITION. The state of the machine, the reasons a step can stop, and the machine right after reset. -/

namespace Sys2Proof.Machine

/-- The state of the MD-431: every piece of state of INVENTORY.md, the free-choice counter and the command queue. -/
structure State where
  /-- Half-microseconds since the end of reset (R10, R131, R151; log entry 1). -/
  time : Nat
  /-- The thirteen counting inputs, by CountLine.index (R1, R2). -/
  lines : Vector CountInput 13
  /-- The five channel records (R1). -/
  chans : PerCount CountChannel
  /-- The pulse direction (R7). -/
  pulseDir : Sign
  /-- DI0 to DI15 (R14). -/
  di : Vector DiscreteInput 16
  /-- DO0 to DO9 (R19). -/
  out : Outputs
  /-- The horn switching (R20). -/
  horn : HornSwitch
  /-- The rope geometry unit (R21 to R37). -/
  geo : Geometry
  /-- The hoist and drag limiter (R39). -/
  env : Envelope
  /-- The swing limiter (R56). -/
  swing : SwingUnit
  /-- The feedback record (R78). -/
  fb : Feedback
  /-- The channel unit (R81). -/
  drive : Drive
  /-- The four brake sequencers (R87). -/
  brakes : PerMotion Brake
  /-- The walk unit (R100 to R121). -/
  walk : Walk
  /-- The power budget unit (R122). -/
  budget : Budget
  /-- The alarm unit (R131). -/
  alarms : Alarms
  /-- The trend recorder (R151). -/
  trend : Trend
  /-- The port unit (R159 to R174). -/
  ports : Ports
  /-- The profile store (R175). -/
  store : Store
  /-- The model's own counter of free choices (log entry 4). -/
  freeCount : Nat
  /-- The commands that wait, first in, first out (the task's rules for a block). -/
  pending : List Instr
  deriving DecidableEq, Repr

/-- The faults of the machine. There is none: the rules give every command an effect, an answer or no effect. -/
inductive Fault
  deriving DecidableEq, Repr

/-- The refusals of the model. -/
inductive Refusal
  /-- Raised by exec's arm of a command that has no meaning yet; safe, since the machine stops. No arm raises it now. -/
  | notModelled (mnemonic : String)
  deriving DecidableEq, Repr

/-- The entry of a condition present at reset, in ACTIVE_UNACK with both times 0 and count 1 (R131, R132). -/
def AlarmEntry.atReset (code : AlarmCode) (cls : AlarmClass) (scope : MotionSet) (detail : Int) : AlarmEntry :=
  ⟨code, cls, scope, .ACTIVE_UNACK, 0, 0, 1, detail⟩

/-- The trigger record that ESTOP gives at reset (R153): nothing has moved and time is 0. -/
def TrendRecord.atReset : TrendRecord :=
  { time := 0
    status := .UNREFERENCED
    lh := none
    ld := none
    x := none
    z := none
    angle := 0
    referenced := false
    output := PerChannel.all 0
    current := PerChannel.all 0
    stale := true
    brakes := PerMotion.all .SET
    transfer := .TRANSFER_FAULT
    phase := .UNKNOWN
    highest := some .TRIP
    marker := some 1 }

/-- The machine right after a reset with every raw level low, every strap open and no slot ever saved (log entries 7 and
9). ESTOP_OK off raises ESTOP, a contactor that reads NEITHER raises TRANSFER_POSITION, and ROPE_UNREF and SWING_UNREF
are always raised at reset (R131); ESTOP triggers the recorder (R153), starts the envelope timer (R147) and sounds the
horn, the buzzer and the red beacon (R146). -/
def State.reset : State :=
  { time := 0
    lines := Vector.replicate 13 (CountInput.atReset false)
    chans := PerCount.all CountChannel.atReset
    pulseDir := .plus
    di := Vector.replicate 16 (DiscreteInput.atReset false)
    out := { Outputs.atReset false with horn := true, red := true, buzzer := true }
    horn := ⟨true, 1, afterUs 0 500⟩
    geo := Geometry.atReset Profile.factory
    env := Envelope.atReset
    swing := SwingUnit.atReset
    fb := Feedback.atReset
    drive := Drive.atReset Profile.factory
    brakes := PerMotion.all (Brake.atReset false)
    walk := Walk.atReset false
    budget := Budget.atReset
    alarms :=
      { Alarms.atReset with
        list :=
          [AlarmEntry.atReset .ESTOP .TRIP MotionSet.full 0,
            AlarmEntry.atReset .TRANSFER_POSITION .TRIP ⟨false, true, false, true⟩ 1,
            AlarmEntry.atReset .ROPE_UNREF .WARN MotionSet.none 0,
            AlarmEntry.atReset .SWING_UNREF .WARN MotionSet.none 0]
        counter := 4
        envTimer := afterMs 0 1000 }
    trend := ⟨[TrendRecord.atReset], .POST_TRIGGER, afterMs 0 20, 0, false⟩
    ports := Ports.atReset ⟨.atReset true true, .atReset true true, .atReset true true⟩ Profile.factory
    store := Store.blank
    freeCount := 0
    pending := [] }

end Sys2Proof.Machine
end

