-- ==== Sys2Proof/Machine/Ops.lean ====
section
/-! DEFINITION. The named operations on the state: one update per field, the accessors of lines, channels, inputs,
brakes and ports, the timers, the parameters, and the free choices. -/

namespace Sys2Proof.Machine

/-! ### One update per field -/

/-- The state with its time replaced. -/
def State.withTime (s : State) (v : Nat) : State :=
  { s with time := v }

/-- The state with its lines replaced. -/
def State.withLines (s : State) (v : Vector CountInput 13) : State :=
  { s with lines := v }

/-- The state with its chans replaced. -/
def State.withChans (s : State) (v : PerCount CountChannel) : State :=
  { s with chans := v }

/-- The state with its pulseDir replaced. -/
def State.withPulseDir (s : State) (v : Sign) : State :=
  { s with pulseDir := v }

/-- The state with its di replaced. -/
def State.withDi (s : State) (v : Vector DiscreteInput 16) : State :=
  { s with di := v }

/-- The state with its out replaced. -/
def State.withOut (s : State) (v : Outputs) : State :=
  { s with out := v }

/-- The state with its horn replaced. -/
def State.withHorn (s : State) (v : HornSwitch) : State :=
  { s with horn := v }

/-- The state with its geo replaced. -/
def State.withGeo (s : State) (v : Geometry) : State :=
  { s with geo := v }

/-- The state with its env replaced. -/
def State.withEnv (s : State) (v : Envelope) : State :=
  { s with env := v }

/-- The state with its swing replaced. -/
def State.withSwing (s : State) (v : SwingUnit) : State :=
  { s with swing := v }

/-- The state with its fb replaced. -/
def State.withFb (s : State) (v : Feedback) : State :=
  { s with fb := v }

/-- The state with its drive replaced. -/
def State.withDrive (s : State) (v : Drive) : State :=
  { s with drive := v }

/-- The state with its brakes replaced. -/
def State.withBrakes (s : State) (v : PerMotion Brake) : State :=
  { s with brakes := v }

/-- The state with its walk replaced. -/
def State.withWalk (s : State) (v : Walk) : State :=
  { s with walk := v }

/-- The state with its budget replaced. -/
def State.withBudget (s : State) (v : Budget) : State :=
  { s with budget := v }

/-- The state with its alarms replaced. -/
def State.withAlarms (s : State) (v : Alarms) : State :=
  { s with alarms := v }

/-- The state with its trend replaced. -/
def State.withTrend (s : State) (v : Trend) : State :=
  { s with trend := v }

/-- The state with its ports replaced. -/
def State.withPorts (s : State) (v : Ports) : State :=
  { s with ports := v }

/-- The state with its store replaced. -/
def State.withStore (s : State) (v : Store) : State :=
  { s with store := v }

/-- The state with its freeCount replaced. -/
def State.withFreeCount (s : State) (v : Nat) : State :=
  { s with freeCount := v }

/-- The state with its pending replaced. -/
def State.withPending (s : State) (v : List Instr) : State :=
  { s with pending := v }

/-! ### Time and timers -/

/-- The microsecond clock: 32 bits, wrapping (R10). -/
def State.us (s : State) : BitVec 32 :=
  BitVec.ofNat 32 (s.time / 2)

/-- Milliseconds since the end of reset: 32 bits, wrapping (R131). -/
def State.ms (s : State) : BitVec 32 :=
  BitVec.ofNat 32 (s.time / 2000)

/-- Milliseconds since the end of reset in 48 bits (R151). -/
def State.trendMs (s : State) : BitVec 48 :=
  BitVec.ofNat 48 (s.time / 2000)

/-- The state at a time not before t (log entry 3). -/
def State.moveTo (s : State) (t : Nat) : State :=
  s.withTime (max s.time t)

/-- A timer that starts now and runs for ms milliseconds. -/
def State.startMs (s : State) (ms : Int) : Timer :=
  afterMs s.time ms

/-- A timer that starts now and runs for us microseconds. -/
def State.startUs (s : State) (us : Int) : Timer :=
  afterUs s.time us

/-! ### Parameters, inputs, channels, brakes, ports -/

/-- A parameter of the working profile (R175). -/
def State.par (s : State) (p : Param) : Int :=
  s.store.working.get p

/-- One input of a counting channel. -/
def State.line (s : State) (l : CountLine) : CountInput :=
  s.lines[l.index]

/-- The state with one counting input replaced. -/
def State.setLine (s : State) (l : CountLine) (v : CountInput) : State :=
  s.withLines (s.lines.set l.index v)

/-- One channel record. -/
def State.chan (s : State) (c : CountCh) : CountChannel :=
  s.chans.get c

/-- The state with one channel record replaced. -/
def State.setChan (s : State) (c : CountCh) (v : CountChannel) : State :=
  s.withChans (s.chans.set c v)

/-- The set of a count by its owner: the count only (R9). -/
def State.setCount (s : State) (c : CountCh) (v : Int) : State :=
  s.setChan c { s.chan c with count := v }

/-- One discrete input. -/
def State.input (s : State) (d : DI) : DiscreteInput :=
  s.di[d.index]

/-- The state with one discrete input replaced. -/
def State.setInput (s : State) (d : DI) (v : DiscreteInput) : State :=
  s.withDi (s.di.set d.index v)

/-- One brake sequencer. -/
def State.brake (s : State) (m : Motion) : Brake :=
  s.brakes.get m

/-- The state with one brake record replaced. -/
def State.putBrake (s : State) (m : Motion) (b : Brake) : State :=
  s.withBrakes (s.brakes.set m b)

/-- A brake state in which the coil is energized (R87). -/
def BrakeState.coilOn : BrakeState → Bool
  | .OPENING | .RELEASED => true
  | .SET | .PROVING | .CLOSING | .FAULT => false

/-- A sequencer's change of state and timer, with its coil line (R19, R87). -/
def State.setBrake (s : State) (m : Motion) (st : BrakeState) (t : Timer) : State :=
  (s.putBrake m { s.brake m with state := st, timer := t }).withOut
    { s.out with coil := s.out.coil.set m st.coilOn }

/-- One port. -/
def State.port (s : State) (p : Port) : PortLine :=
  s.ports.line.get p

/-- The state with one port replaced. -/
def State.setPort (s : State) (p : Port) (v : PortLine) : State :=
  s.withPorts { s.ports with line := s.ports.line.set p v }

/-- The state with the alarm list replaced. -/
def State.setList (s : State) (l : List AlarmEntry) : State :=
  s.withAlarms { s.alarms with list := l }

/-! ### Free choices (log entry 4) -/

/-- A fresh free value, and the state with the counter moved on. -/
def State.choose (s : State) : Nat × State :=
  (Config.freeChoice s.freeCount, s.withFreeCount (s.freeCount + 1))

/-- The list with x put in at place n, or at the end. -/
def insertAt {α : Type} : Nat → α → List α → List α
  | 0, x, l => x :: l
  | _ + 1, x, [] => [x]
  | n + 1, x, y :: l => y :: insertAt n x l

/-- The list in an order that a number selects; every order is some number's. -/
def shuffle {α : Type} : List α → Nat → List α
  | [], _ => []
  | x :: l, n => insertAt (n % (l.length + 1)) x (shuffle l (n / (l.length + 1)))

/-- Each piece of work in turn. -/
def runEach {α : Type} (run : α → State → State) : List α → State → State
  | [], s => s
  | x :: l, s => runEach run l (run x s)

/-! ### The list-change counter -/

/-- The list-change counter at the end of an event: one more when the list or the OVERFLOW marker differs from what it
was (R136; log entry 6). -/
def settle (s s' : State) : State :=
  if s'.alarms.list = s.alarms.list ∧ s'.alarms.overflow = s.alarms.overflow then s'
  else s'.withAlarms { s'.alarms with counter := s.alarms.counter + 1 }

end Sys2Proof.Machine
end

