-- ==== Sys2Proof/Machine/Clock.lean ====
section
/-! DEFINITION. Time when no command waits: the timers that are due, and which of them is taken (log entries 2 and 4). -/

namespace Sys2Proof.Machine

/-- A timer with the command of its expiry. -/
abbrev Alarm := Timer × Instr

/-- The thirteen counting inputs (01 section 1.1). -/
def countLines : List CountLine :=
  [.HOIST_A, .HOIST_B, .DRAG_A, .DRAG_B, .SWING_A, .SWING_B, .SWING_Z, .CAM_L_A, .CAM_L_B, .CAM_L_Z, .CAM_R_A,
    .CAM_R_B, .CAM_R_Z]

/-- The five counting channels (01 section 1.1). -/
def countChannels : List CountCh :=
  [.HOIST, .DRAG, .SWING, .CAM_L, .CAM_R]

/-- The sixteen discrete inputs (01 section 1.6). -/
def discreteInputs : List DI :=
  [.ESTOP_OK, .HOIST_BRAKE_FB, .DRAG_BRAKE_FB, .SWING_BRAKE_FB, .WALK_BRAKE_FB, .XFER_DIG_FB, .XFER_WALK_FB,
    .HOIST_MARK, .DRAG_MARK, .OVERHOIST_SW, .BOOM_JACK_SW, .TUB_SEATED, .LOCAL_KEY, .LUBE_OK, .AUX1, .AUX2]

/-- The expiry of a brake timer, by the state it runs for (05 section 5.4). -/
def brakeExpiry (m : Motion) : BrakeState → Option Instr
  | .PROVING => some (.proofTimerExpiry m)
  | .OPENING => some (.openTimeExpiry m)
  | .RELEASED => some (.setDelayExpiry m)
  | .CLOSING => some (.closeTimeExpiry m)
  | .SET | .FAULT => none

/-- The brake timers. -/
def State.brakeAlarms (s : State) : List Alarm :=
  motions.filterMap fun m => (brakeExpiry m (s.brake m).state).map fun i => ((s.brake m).timer, i)

/-- The expiry of the trend timer, by the recorder state it runs for (R152). -/
def trendExpiry : TrendState → Option Instr
  | .ARMED => some .trendSlowExpiry
  | .POST_TRIGGER => some .trendFastExpiry
  | .FROZEN => none

/-- The trend timer. -/
def State.trendAlarms (s : State) : List Alarm :=
  (trendExpiry s.trend.state).toList.map fun i => (s.trend.timer, i)

/-- The single timers of the units. -/
def State.unitAlarms (s : State) : List Alarm :=
  [(s.horn.timer, .hornSwitchingPeriod), (s.geo.sampleTimer, .geometrySample), (s.geo.holdTimer, .geometryHoldExpiry),
    (s.drive.refTimer, .referencePeriod), (s.walk.timer, .transferTimerExpiry), (s.walk.lubeTimer, .lubeTimerExpiry),
    (s.alarms.envTimer, .envelopeTimerExpiry), (s.alarms.patternTimer, .patternTimerExpiry),
    (s.ports.serviceTimer, .serviceTimerExpiry), (s.ports.link.timer, .missTimerExpiry),
    (s.store.saveTimer, .saveTimerExpiry)]

/-- The two timers of each master. -/
def State.masterAlarms (s : State) : List Alarm :=
  [Master.CAB, Master.SERVICE].flatMap fun m =>
    [((s.ports.demand.get m).timer, .demandHoldExpiry m), (s.ports.statusTimer.get m, .statusTimerExpiry m)]

/-- The timers of the inputs and counting channels. -/
def State.inputAlarms (s : State) : List Alarm :=
  (countLines.map fun l => ((s.line l).timer, Instr.filterTimerExpiry l))
    ++ (countChannels.map fun c => ((s.chan c).timer, Instr.standstillTimerExpiry c))
    ++ discreteInputs.map fun d => ((s.input d).timer, Instr.debounceTimerExpiry d)

/-- Every timer with the command of its expiry. -/
def State.allAlarms (s : State) : List Alarm :=
  s.inputAlarms ++ s.unitAlarms ++ s.brakeAlarms ++ s.masterAlarms ++ s.trendAlarms

/-- A timer is due. -/
def isDue (now : Nat) (a : Alarm) : Bool :=
  a.1.any fun d => d ≤ now

/-- The expiries that are due. -/
def State.due (s : State) : List Instr :=
  (s.allAlarms.filter (isDue s.time)).map Prod.snd

/-- One of the expiries that are due, with the state to take it in: where several are due the choice is free (log entry
4). -/
def State.nextDue (s : State) : Option (Instr × State) :=
  match s.due with
  | [] => none
  | [i] => some (i, s)
  | i :: j :: l => some ((i :: j :: l).getD (s.choose.1 % (l.length + 2)) i, s.choose.2)

/-- The state one half-microsecond later (log entry 2). -/
def State.tick (s : State) : State :=
  s.withTime (s.time + 1)

end Sys2Proof.Machine
end

