-- ==== Sys2Proof/Machine/Operands.lean ====
section
/-! DEFINITION. The fields of a payload, least significant byte first (10_serial_ports_and_authority.md section 10.2),
and the fields of a frame that need more than their bytes (section 10.9). -/

namespace Sys2Proof.Machine

/-- The byte at an offset. -/
def byteAt (p : List Byte) (i : Nat) : Byte :=
  p.getD i 0

/-- The unsigned byte at an offset. -/
def u8 (p : List Byte) (i : Nat) : Nat :=
  (byteAt p i).toNat

/-- The unsigned 16-bit field at an offset. -/
def u16 (p : List Byte) (i : Nat) : Nat :=
  (byteAt p (i + 1) ++ byteAt p i).toNat

/-- The signed 16-bit field at an offset. -/
def s16 (p : List Byte) (i : Nat) : Int :=
  (byteAt p (i + 1) ++ byteAt p i).toInt

/-- The signed 32-bit field at an offset. -/
def s32 (p : List Byte) (i : Nat) : Int :=
  (byteAt p (i + 3) ++ byteAt p (i + 2) ++ byteAt p (i + 1) ++ byteAt p i).toInt

/-- The low bit of the byte at an offset. -/
def bit0 (p : List Byte) (i : Nat) : Bool :=
  u8 p i % 2 == 1

/-- A length or coordinate as a frame carries it: -32768 when absent, else clamped (section 10.9). -/
def lengthField : Option Int → List Byte
  | none => le16 (-32768)
  | some v => le16 (clamp (-32767) 32767 v)

/-- The payload of a PARAM_WRITE (section 10.9). -/
def paramPayload (id : Nat) (value : BitVec 32) : List Byte :=
  leBytes 2 id ++ leBytes 4 value.toNat

end Sys2Proof.Machine
end

