-- ==== Sys2Proof/Machine/Flags.lean ====
section
/-! DEFINITION. What is read from the state and not stored: inputs that are on, inhibits, the contactor reading and the
drive report, angles, phase and park, the demands, and the summary of the alarm list. -/

namespace Sys2Proof.Machine

/-! ### Discrete inputs -/

/-- The parameter of an auxiliary input's active level (R17). -/
def auxActive : Aux → Param
  | .AUX1 => .AUX1_ACTIVE
  | .AUX2 => .AUX2_ACTIVE

/-- Whether a level is the active level of a polarity, 0 HIGH or 1 LOW (R17). -/
def activeAt (polarity : Int) (level : Bool) : Bool :=
  if polarity = 1 then !level else level

/-- Whether an input is on: its debounced level is at its active level (R17). -/
def State.isOn (s : State) (d : DI) : Bool :=
  match d with
  | .AUX1 => activeAt (s.par .AUX1_ACTIVE) (s.input .AUX1).level
  | .AUX2 => activeAt (s.par .AUX2_ACTIVE) (s.input .AUX2).level
  | _ => (s.input d).level

/-- The input of an auxiliary condition. -/
def auxInput : Aux → DI
  | .AUX1 => .AUX1
  | .AUX2 => .AUX2

/-- The feedback input of a brake (05 section 5.4). -/
def feedbackInput : Motion → DI
  | .H => .HOIST_BRAKE_FB
  | .D => .DRAG_BRAKE_FB
  | .S => .SWING_BRAKE_FB
  | .W => .WALK_BRAKE_FB

/-- Whether a brake's released feedback is on. -/
def State.feedbackOn (s : State) (m : Motion) : Bool :=
  s.isOn (feedbackInput m)

/-- What the contactor inputs say (R101). -/
inductive Contactor
  | DIG
  | WALK
  | NEITHER
  | BOTH
  deriving DecidableEq, Repr

/-- The contactor reading (R101). -/
def State.contactor (s : State) : Contactor :=
  if s.isOn .XFER_DIG_FB then (if s.isOn .XFER_WALK_FB then .BOTH else .DIG)
  else if s.isOn .XFER_WALK_FB then .WALK else .NEITHER

/-- The drive report: the stored configuration while the stale marker is clear, else NONE (R101). -/
def State.driveReport (s : State) : DriveConfig :=
  if s.fb.stale then .NONE else s.fb.config

/-! ### Motions and channels -/

/-- The channel of a brake (05 section 5.4). -/
def channelOf : Motion → Channel
  | .H => .HOIST
  | .D | .W => .DRAG_WALK
  | .S => .SWING

/-- The standstill source of a brake (05 section 5.4). -/
def standstillSource : Motion → CountCh
  | .H => .HOIST
  | .D => .DRAG
  | .S => .SWING
  | .W => .CAM_L

/-- The active brake of a channel (R81). -/
def activeBrake (t : TransferState) : Channel → Option Motion
  | .HOIST => some .H
  | .SWING => some .S
  | .DRAG_WALK =>
    match t with
    | .DIG => some .D
    | .WALK => some .W
    | .TO_WALK | .TO_DIG | .TRANSFER_FAULT => none

/-- All four brakes are SET. -/
def State.brakesSet (s : State) : Bool :=
  motions.all fun m => (s.brake m).state == .SET

/-! ### Alarm list -/

/-- Whether a class latches (R130). -/
def AlarmClass.latches : AlarmClass → Bool
  | .TRIP | .STOP => true
  | .WARN | .INFO => false

/-- The motions covered by entries of a class (R137). -/
def coverage (l : List AlarmEntry) (c : AlarmClass) : MotionSet :=
  PerMotion.of fun m => l.any fun e => e.cls == c && e.scope.get m

/-- The TRIP inhibit of a motion (R137). -/
def State.tripInhibit (s : State) (m : Motion) : Bool :=
  (coverage s.alarms.list .TRIP).get m

/-- The STOP inhibit of a motion (R137). -/
def State.stopInhibit (s : State) (m : Motion) : Bool :=
  (coverage s.alarms.list .STOP).get m

/-- A TRIP or STOP entry covers the motion (R88). -/
def State.inhibited (s : State) (m : Motion) : Bool :=
  s.tripInhibit m || s.stopInhibit m

/-- Whether a code has an entry. -/
def State.listed (s : State) (c : AlarmCode) : Bool :=
  s.alarms.list.any fun e => e.code == c

/-- An entry that is not acknowledged (R138). -/
def AlarmEntry.unacked (e : AlarmEntry) : Bool :=
  e.state == .ACTIVE_UNACK || e.state == .CLEARED_UNACK

/-- The highest class of a list (R138). -/
def highestClass (l : List AlarmEntry) : Option AlarmClass :=
  if l.any fun e => e.cls == .TRIP then some .TRIP
  else if l.any fun e => e.cls == .STOP then some .STOP
  else if l.any fun e => e.cls == .WARN then some .WARN
  else if l.any fun e => e.cls == .INFO then some .INFO
  else none

/-- The summary handed to the STATUS frames and the trend recorder (R138). -/
def State.summary (s : State) : AlarmSummary :=
  { length := s.alarms.list.length
    unacked := (s.alarms.list.filter AlarmEntry.unacked).length
    highest := highestClass s.alarms.list
    counter := s.alarms.counter
    overflow := s.alarms.overflow }

/-! ### Angles -/

/-- The swing angle of a count (R57). -/
def State.swingAngleAt (s : State) (count : Int) : Int :=
  count * 3600 / s.par .SWING_CPR

/-- The swing angle (R57). -/
def State.swingAngle (s : State) : Int :=
  s.swingAngleAt (s.chan .SWING).count

/-- The counting channel of a cam. -/
def camCh : Cam → CountCh
  | .L => .CAM_L
  | .R => .CAM_R

/-- The cam angle of a count (R111). -/
def State.camAngleAt (s : State) (count : Int) : Int :=
  count * 3600 / s.par .CAM_CPR

/-- The angle of a cam (R111). -/
def State.camAngle (s : State) (c : Cam) : Int :=
  s.camAngleAt (s.chan (camCh c)).count

/-- The sync state of a cam. -/
def State.camSync (s : State) (c : Cam) : CamSync :=
  (s.walk.cams.get c).sync

/-- Both cams are SYNCED. -/
def State.bothSynced (s : State) : Bool :=
  s.camSync .L == .SYNCED && s.camSync .R == .SYNCED

/-- The walk phase (R116). -/
def State.walkPhase (s : State) : WalkPhase :=
  if s.camSync .L = .SYNCED then
    if s.camAngle .L < s.par .PHASE_1 then .SHOES_LOWERING
    else if s.camAngle .L < s.par .PHASE_2 then .HOUSE_LIFTING
    else if s.camAngle .L < s.par .PHASE_3 then .STEPPING
    else if s.camAngle .L < s.par .PHASE_4 then .HOUSE_SETTING
    else .SHOES_RAISING
  else .UNKNOWN

/-- The cam is at park (R116). -/
def State.atPark (s : State) : Bool :=
  s.camSync .L == .SYNCED && decide (mag (angDiff (s.camAngle .L) 0) ≤ s.par .PARK_WINDOW)

/-- The skew of the cams (R115). -/
def State.skew (s : State) : Int :=
  angDiff (s.camAngle .L) (s.camAngle .R)

/-- The walk output: that of the last reference period in WALK, 0 in any other transfer state (R120). -/
def State.walkOut (s : State) : Int :=
  if s.walk.transfer = .WALK then s.walk.walkOutput else 0

/-- The steering-permitted flag as its conditions stand (R121). -/
def State.steeringNow (s : State) : Bool :=
  s.walk.transfer == .WALK && s.bothSynced && s.walkPhase == .STEPPING && s.walkOut == 0 && (s.chan .CAM_L).standstill

/-- The flag judged afresh (R121). -/
def judgeSteering (s : State) : State :=
  s.withWalk { s.walk with steering := s.steeringNow }

/-! ### Demands and authority -/

/-- The motions a master holds (R167). -/
def State.heldBy (s : State) (m : Master) : MotionSet :=
  PerMotion.of fun x => s.ports.authority.get x == m

/-- The raw demand of a motion (R163). -/
def State.rawDemand (s : State) (m : Motion) : Int :=
  if (s.ports.demand.get (s.ports.authority.get m)).expired then 0
  else (s.ports.demand.get (s.ports.authority.get m)).value.get m

/-- The effective demand of a motion (R163). -/
def State.effectiveDemand (s : State) (m : Motion) : Int :=
  if s.ports.interlock.get m then 0 else s.rawDemand m

/-- The motions that wait for a zero pass (R166). -/
def State.waiting (s : State) : MotionSet :=
  PerMotion.of fun m => s.ports.interlock.get m && s.rawDemand m != 0

/-- A set of motions is the holder's alone. -/
def State.holds (s : State) (m : Master) (x : Motion) : Bool :=
  s.ports.authority.get x == m

/-- A demand bounded by the limit of its direction (R50, R71, R119). -/
def boundDemand (d pos neg : Int) : Int :=
  if 0 < d then min d pos else if d < 0 then max d (-neg) else 0

end Sys2Proof.Machine
end

