-- ==== Sys2Proof/Machine/AlarmList.lean ====
section
/-! DEFINITION. The alarm list below the raise: numbers, classes and scopes of the codes, the horn switching, the
annunciation demands, the exit from TRANSFER_FAULT that a removal can give, and the clear of a code. -/

namespace Sys2Proof.Machine

/-! ### Codes -/

/-- The number of a code (08 section 8.1). -/
def AlarmCode.number (c : AlarmCode) : Nat :=
  c.ctorIdx + 1

/-- The alarm of an auxiliary condition (R139). -/
def auxCode : Aux → AlarmCode
  | .AUX1 => .AUX_1
  | .AUX2 => .AUX_2

/-- The class parameter of an auxiliary condition (R140). -/
def auxClassParam : Aux → Param
  | .AUX1 => .AUX1_CLASS
  | .AUX2 => .AUX2_CLASS

/-- The scope parameter of an auxiliary condition (R140). -/
def auxScopeParam : Aux → Param
  | .AUX1 => .AUX1_SCOPE
  | .AUX2 => .AUX2_SCOPE

/-- The class of a class parameter: 2 WARN, 3 STOP, 4 TRIP (11 section 11.5). -/
def classOfParam (v : Int) : AlarmClass :=
  if v = 4 then .TRIP else if v = 3 then .STOP else .WARN

/-- The class the profile gives an auxiliary condition (R139). -/
def State.auxClass (s : State) (a : Aux) : AlarmClass :=
  classOfParam (s.par (auxClassParam a))

/-- The scope the profile gives an auxiliary condition: its set for STOP and TRIP, empty for WARN (R130, R139). -/
def State.auxScope (s : State) (a : Aux) : MotionSet :=
  if (s.auxClass a).latches then MotionSet.ofCode (s.par (auxScopeParam a)).toNat else MotionSet.none

/-- The class of a code (08 section 8.1, R130). -/
def State.codeClass (s : State) : AlarmCode → AlarmClass
  | .CAB_LINK_LOST | .SERVICE_LINK_LOST | .PROOF_FAIL_H | .PROOF_FAIL_D | .LUBE_LOW => .STOP
  | .AUX_1 => s.auxClass .AUX1
  | .AUX_2 => s.auxClass .AUX2
  | .GEOMETRY_LOST | .ROPE_UNREF | .ROPE_SLIP_H | .ROPE_SLIP_D | .COUNT_RANGE_H | .COUNT_RANGE_D | .SWING_UNREF
  | .SWING_SLIP | .SWING_IN_ZONE | .CAM_SYNC_L | .CAM_SYNC_R | .LINE_DIP | .PROFILE_FALLBACK
  | .PROFILE_SAVE_FAIL => .WARN
  | .HOIST_TOP_LIMIT | .DRAG_FAIRLEAD_LIMIT | .JACK_ZONE | .TABLES_PENDING | .POWER_CURTAIL | .TREND_FROZEN
  | .ZERO_PASS_WAIT => .INFO
  | .ESTOP | .DRIVE_LINK_LOST | .DRIVE_FAULT_H | .DRIVE_FAULT_DW | .DRIVE_FAULT_S | .BRAKE_FAULT_H | .BRAKE_FAULT_D
  | .BRAKE_FAULT_S | .BRAKE_FAULT_W | .OVERHOIST | .BOOM_JACK | .OVERSPEED_H | .OVERSPEED_D | .OVERSPEED_S
  | .TRANSFER_TIMEOUT | .TRANSFER_POSITION | .CAM_SKEW => .TRIP

/-- The scope of a code whose raise names none (08 section 8.1, R130). -/
def State.codeScope (s : State) : AlarmCode → MotionSet
  | .ESTOP | .DRIVE_LINK_LOST => MotionSet.full
  | .DRIVE_FAULT_H | .BRAKE_FAULT_H | .OVERHOIST | .OVERSPEED_H | .PROOF_FAIL_H => MotionSet.one .H
  | .BRAKE_FAULT_D | .OVERSPEED_D | .PROOF_FAIL_D => MotionSet.one .D
  | .DRIVE_FAULT_S | .BRAKE_FAULT_S | .OVERSPEED_S => MotionSet.one .S
  | .BRAKE_FAULT_W | .CAM_SKEW | .LUBE_LOW => MotionSet.one .W
  | .DRIVE_FAULT_DW | .TRANSFER_TIMEOUT | .TRANSFER_POSITION => ⟨false, true, false, true⟩
  | .BOOM_JACK => ⟨true, true, true, false⟩
  | .AUX_1 => s.auxScope .AUX1
  | .AUX_2 => s.auxScope .AUX2
  | _ => MotionSet.none

/-- The fault code of a brake (R93). -/
def brakeFaultCode : Motion → AlarmCode
  | .H => .BRAKE_FAULT_H
  | .D => .BRAKE_FAULT_D
  | .S => .BRAKE_FAULT_S
  | .W => .BRAKE_FAULT_W

/-! ### Horn switching -/

/-- The on time of a horn period at a level, in half-microseconds: (18 - 2k)/16 of 500 microseconds (R20). -/
def hornOnTime (k : Nat) : Nat :=
  125 * (9 - k)

/-- A period of the horn switching begins now, with the line on and the duty of the present envelope level (R20). -/
def startHornPeriod (s : State) : State :=
  (s.withOut { s.out with horn := true }).withHorn
    ⟨true, s.alarms.envLevel, some (s.time + hornOnTime s.alarms.envLevel)⟩

/-- The horn demand: off to on starts a period, on to off ends the switching (R20). -/
def setHornDemand (demand : Bool) (s : State) : State :=
  if demand = s.horn.demand then s
  else if demand then startHornPeriod s
  else (s.withOut { s.out with horn := false }).withHorn { s.horn with demand := false, timer := none }

/-! ### Annunciation -/

/-- The mask of an output for a class, if that class has one (08 section 8.6). -/
def annMask : AnnOutput → AlarmClass → Option Param
  | .HORN, .TRIP => some .HORN_MASK_TRIP
  | .HORN, .STOP => some .HORN_MASK_STOP
  | .HORN, .WARN => some .HORN_MASK_WARN
  | .BUZZER, .TRIP => some .BUZZER_MASK_TRIP
  | .BUZZER, .STOP => some .BUZZER_MASK_STOP
  | .BUZZER, .WARN => some .BUZZER_MASK_WARN
  | .RED, .TRIP => some .RED_MASK_TRIP
  | .RED, .STOP => some .RED_MASK_STOP
  | .RED, .WARN => some .RED_MASK_WARN
  | .AMBER, .TRIP => some .AMBER_MASK_TRIP
  | .AMBER, .STOP => some .AMBER_MASK_STOP
  | .AMBER, .WARN => some .AMBER_MASK_WARN
  | _, .INFO => none

/-- The governing class of an output (R146). -/
def State.governing (s : State) (o : AnnOutput) : Option AlarmClass :=
  match o with
  | .HORN | .BUZZER => highestClass (s.alarms.list.filter AlarmEntry.unacked)
  | .RED | .AMBER => highestClass s.alarms.list

/-- An output's pattern at the present step: the bit of its mask for its governing class (R146). -/
def State.patternOn (s : State) (o : AnnOutput) : Bool :=
  match (s.governing o).bind (annMask o) with
  | some p => (s.par p).toNat.testBit s.alarms.step
  | none => false

/-- The demand of an output: its pattern, and for the horn the silence flag clear (R146). -/
def State.annDemand (s : State) (o : AnnOutput) : Bool :=
  match o with
  | .HORN => s.patternOn .HORN && !s.alarms.silence
  | .BUZZER | .RED | .AMBER => s.patternOn o

/-- The four demands judged and handed to the outputs (R146, R19). -/
def annunciate (s : State) : State :=
  setHornDemand (s.annDemand .HORN)
    (s.withOut { s.out with
      buzzer := s.annDemand .BUZZER, red := s.annDemand .RED, amber := s.annDemand .AMBER })

/-! ### The exit from TRANSFER_FAULT -/

/-- What R109 asks for: no transfer entry, contactor and drive in dig, brakes D and W SET. -/
def State.mayLeaveTransferFault (s : State) : Bool :=
  s.walk.transfer == .TRANSFER_FAULT && !s.listed .TRANSFER_TIMEOUT && !s.listed .TRANSFER_POSITION
    && s.contactor == .DIG && s.driveReport == .DIG
    && (s.brake .D).state == .SET && (s.brake .W).state == .SET

/-- TRANSFER_FAULT is left for DIG when it may be (R109); the steering flag is judged at the change (R121). -/
def judgeTransferExit (s : State) : State :=
  if s.mayLeaveTransferFault then judgeSteering (s.withWalk { s.walk with transfer := .DIG }) else s

/-! ### Clearing a code -/

/-- What a clear makes of its entry; none when the entry is removed (R134). -/
def AlarmEntry.cleared (e : AlarmEntry) (now : BitVec 32) : Option AlarmEntry :=
  match e.state with
  | .ACTIVE_UNACK => some { e with state := .CLEARED_UNACK, last := now }
  | .ACTIVE_ACK => if e.cls.latches then some { e with state := .CLEARED_LATCHED, last := now } else none
  | .CLEARED_UNACK | .CLEARED_LATCHED => some e

/-- The list after a clear of a code (R134). -/
def clearList (c : AlarmCode) (now : BitVec 32) (l : List AlarmEntry) : List AlarmEntry :=
  l.filterMap fun e => if e.code = c then e.cleared now else some e

/-- The walk unit's judgement when the list has lost an entry since it was l (R138). -/
def judgeRemoval (l : List AlarmEntry) (s : State) : State :=
  if s.alarms.list.length < l.length then judgeTransferExit s else s

/-- A clear of a code (R134). -/
def clear (c : AlarmCode) (s : State) : State :=
  annunciate (judgeRemoval s.alarms.list (s.setList (clearList c s.ms s.alarms.list)))

end Sys2Proof.Machine
end

