-- ==== Sys2Proof/Machine/BrakeMoves.lean ====
section
/-! DEFINITION. The moves of a brake sequencer that any event can cause: entry to SET with what its readers do at it,
closing, and the actions of R94. -/

namespace Sys2Proof.Machine

/-- The active tables a pending copy gives: its entries 1 to count (R74). -/
def PendingCopy.tables (c : PendingCopy) : SwingTables :=
  ⟨c.radius.toList.take c.radiusCount, c.zones.toList.take c.zoneCount⟩

/-- The pending state is READY: the tables-pending condition (04 section 4.6.1). -/
def Pending.isReady : Pending → Bool
  | .READY _ => true
  | .ABSENT | .EDITING _ => false

/-- The state with the pending state of the swing tables replaced. -/
def State.withPendingTables (s : State) (p : Pending) : State :=
  s.withSwing { s.swing with pending := p }

/-- The activation of a pending copy: it becomes the active copy, and the profile becomes dirty (R74). -/
def activateCopy (c : PendingCopy) (s : State) : State :=
  (s.withPendingTables .ABSENT).withStore
    { s.store with working := { s.store.working with tables := c.tables }, dirty := true }

/-- A READY copy is activated; any other pending state stays (R74). The clear of TABLES_PENDING is State.tablesEvents. -/
def activateReady (s : State) : State :=
  match s.swing.pending with
  | .READY c => activateCopy c s
  | .ABSENT | .EDITING _ => s

/-- What the readers of the brake states do at an entry to SET: brake S activates a READY copy (R74), brakes D and W let
the exit from TRANSFER_FAULT be judged (R109). -/
def seenSet : Motion → State → State
  | .H => id
  | .S => activateReady
  | .D | .W => judgeTransferExit

/-- The entry of a sequencer to SET, with its timer stopped (R92). -/
def enterSet (m : Motion) (s : State) : State :=
  seenSet m (s.setBrake m .SET none)

/-- The coil off: CLOSING with CLOSE_TIME, or SET at once when the feedback is off (R92, R94). -/
def closeBrake (m : Motion) (s : State) : State :=
  if s.feedbackOn m then s.setBrake m .CLOSING (s.startMs (s.par .CLOSE_TIME)) else enterSet m s

/-- What a TRIP entry covering its motion does to a sequencer (R94); the same acts when the transfer state leaves the
motion's state (R96) and when the ready flag is off (R95). -/
def tripAct (m : Motion) (s : State) : State :=
  match (s.brake m).state with
  | .PROVING => enterSet m s
  | .OPENING | .RELEASED => closeBrake m s
  | .SET | .CLOSING | .FAULT => s

/-- What a STOP entry covering its motion does to a sequencer (R94). -/
def stopAct (m : Motion) (s : State) : State :=
  match (s.brake m).state with
  | .PROVING => enterSet m s
  | .SET | .OPENING | .RELEASED | .CLOSING | .FAULT => s

/-- What an entry of a class does to the sequencer of a motion it covers (R94). -/
def entryAct (cls : AlarmClass) : Motion → State → State :=
  match cls with
  | .TRIP => tripAct
  | .STOP => stopAct
  | .WARN | .INFO => fun _ s => s

/-- An entry of a class acts on the sequencers of a set of motions (R94). -/
def actOn (cls : AlarmClass) (ms : MotionSet) (s : State) : State :=
  runEach (entryAct cls) (motions.filter fun m => ms.get m) s

end Sys2Proof.Machine
end

