-- ==== Sys2Proof/Machine/Trend.lean ====
section
/-! DEFINITION. The ring of the trend recorder: the taking of a record, the trigger index and the trigger. -/

namespace Sys2Proof.Machine

/-- A record of the machine as it stands (R151). -/
def State.trendRecord (s : State) (marker : Option Nat) : TrendRecord :=
  { time := s.trendMs
    status := s.geo.record.status
    lh := s.geo.record.lh
    ld := s.geo.record.ld
    x := s.geo.record.pos.map fun p => p.x
    z := s.geo.record.pos.map fun p => p.z
    angle := s.swingAngle
    referenced := s.swing.referenced
    output := s.drive.output
    current := PerChannel.of fun c => (s.fb.chan.get c).current
    stale := s.fb.stale
    brakes := PerMotion.of fun m => (s.brake m).state
    transfer := s.walk.transfer
    phase := s.walkPhase
    highest := highestClass s.alarms.list
    marker := marker }

/-- The number of records a full ring holds (R151). -/
def ringSize : Nat := 256

/-- The ring with a record put in: in the place of the newest when that has the same time, keeping its marker unless the
record has its own, and else appended, the oldest going first from a full ring (R151). -/
def putRecord (r : TrendRecord) (ring : List TrendRecord) : List TrendRecord :=
  match ring.getLast? with
  | some n =>
    if n.time = r.time then ring.dropLast ++ [{ r with marker := r.marker.orElse fun _ => n.marker }]
    else (if ringSize ≤ ring.length then ring.drop 1 else ring) ++ [r]
  | none => [r]

/-- A record is taken (R151). -/
def takeRecord (marker : Option Nat) (s : State) : State :=
  s.withTrend { s.trend with ring := putRecord (s.trendRecord marker) s.trend.ring }

/-- The place of the record with a trigger marker, if the ring holds one (R158). -/
def State.triggerIndex (s : State) : Option Nat :=
  s.trend.ring.findIdx? fun r => r.marker.isSome

/-- A trigger: in ARMED the trigger record is taken and the fast timer starts; in the other states nothing happens
(R153). -/
def trigger (marker : Nat) (s : State) : State :=
  match s.trend.state with
  | .ARMED =>
    s.withTrend { s.trend with
      ring := putRecord (s.trendRecord (some marker)) s.trend.ring
      state := .POST_TRIGGER
      timer := s.startMs (s.par .TREND_FAST)
      post := 0 }
  | .POST_TRIGGER | .FROZEN => s

end Sys2Proof.Machine
end

