-- ==== Sys2Proof/Machine/Raise.lean ====
section
/-! DEFINITION. The raise of a code, the raises and clears that one event brings in any order, the zero-pass judgement
that raises one, what the removal of entries brings about, and the outcome of an event. -/

namespace Sys2Proof.Machine

/-! ### Raising a code -/

/-- The number of entries a full list holds (R131). -/
def listSize : Nat := 32

/-- Whether an entry may be removed for a raise of a class (R135). -/
def evictable (cls : AlarmClass) (e : AlarmEntry) : Bool :=
  match cls with
  | .TRIP | .STOP => !e.cls.latches
  | .WARN => !e.cls.latches && e.state != .ACTIVE_UNACK
  | .INFO => e.cls == .INFO && e.state != .ACTIVE_UNACK

/-- The list with room for a new entry of a class; none when no entry may be removed (R135). -/
def makeRoom (cls : AlarmClass) (l : List AlarmEntry) : Option (List AlarmEntry) :=
  if l.length < listSize then some l
  else if l.any (evictable cls) then some (l.eraseP (evictable cls))
  else none

/-- The entry a raise of an unlisted code makes (R132). -/
def AlarmEntry.made (c : AlarmCode) (cls : AlarmClass) (scope : MotionSet) (detail : Int) (now : BitVec 32) :
    AlarmEntry :=
  ⟨c, cls, scope, .ACTIVE_UNACK, now, now, 1, detail⟩

/-- What a raise makes of the entry of its code (R133). -/
def AlarmEntry.reraised (e : AlarmEntry) (scope : MotionSet) (detail : Int) (now : BitVec 32) : AlarmEntry :=
  { e with
    scope := e.scope.union scope
    state := .ACTIVE_UNACK
    last := now
    count := min 255 (e.count + 1)
    detail := detail }

/-- An entry to ACTIVE_UNACK: the silence flag is cleared (R143), the envelope starts again (R147). -/
def enterUnack (s : State) : State :=
  s.withAlarms { s.alarms with
    silence := false
    envLevel := 1
    envTimer := if s.par .ENVELOPE_ON = 1 then s.startMs (s.par .ENVELOPE_STEP) else none }

/-- A TRIP entry hands the trigger to the recorder and acts on the sequencers, in the order given (R153). -/
def tripEffects (triggerFirst : Bool) (c : AlarmCode) (gained : MotionSet) (s : State) : State :=
  if triggerFirst then actOn .TRIP gained (trigger c.number s) else trigger c.number (actOn .TRIP gained s)

/-- Whether a sequencer that a TRIP entry sets to work is among a set of motions (R94). -/
def State.tripMoves (s : State) (ms : MotionSet) : Bool :=
  motions.any fun m => ms.get m &&
    ((s.brake m).state == .PROVING || (s.brake m).state == .OPENING || (s.brake m).state == .RELEASED)

/-- Whether the order of R153 shows: the recorder takes the trigger and a sequencer acts on the entry. -/
def State.orderShows (s : State) (gained : MotionSet) : Bool :=
  s.trend.state == .ARMED && s.tripMoves gained

/-- What follows at the event of an entry for the motions it newly covers (R94, R132, R133); where the order of recorder
and sequencers shows, it is free (R153; log entry 4). -/
def entryEffects (c : AlarmCode) (cls : AlarmClass) (gained : MotionSet) (s : State) : State :=
  match cls with
  | .TRIP =>
    if s.orderShows gained then tripEffects (s.choose.1 % 2 == 0) c gained s.choose.2
    else tripEffects true c gained s
  | .STOP | .WARN | .INFO => actOn cls gained s

/-- A raise of a code that has the entry e (R133). -/
def reraise (c : AlarmCode) (scope : MotionSet) (detail : Int) (e : AlarmEntry) (s : State) : State :=
  entryEffects c e.cls (scope.minus e.scope)
    (enterUnack (s.setList (s.alarms.list.map fun x => if x.code = c then x.reraised scope detail s.ms else x)))

/-- A raise of a code that has no entry (R132, R135). -/
def raiseNew (c : AlarmCode) (scope : MotionSet) (detail : Int) (s : State) : State :=
  match makeRoom (s.codeClass c) s.alarms.list with
  | some l =>
    entryEffects c (s.codeClass c) scope
      ((if l.length < s.alarms.list.length then judgeTransferExit else id)
        (enterUnack (s.setList (l ++ [AlarmEntry.made c (s.codeClass c) scope detail s.ms]))))
  | none => s.withAlarms { s.alarms with overflow := true }

/-- A raise of a code with the scope it names (R132, R133, R135). -/
def raiseScoped (c : AlarmCode) (scope : MotionSet) (detail : Int) (s : State) : State :=
  annunciate (match s.alarms.list.find? (fun e => e.code == c) with
    | some e => reraise c scope detail e s
    | none => raiseNew c scope detail s)

/-- A raise of a code with the scope of its code (R132, R133, R135). -/
def raise (c : AlarmCode) (detail : Int) (s : State) : State :=
  raiseScoped c (s.codeScope c) detail s

/-! ### The raises and clears of one event -/

/-- A raise or a clear that an owner sends to the alarm unit (R150). -/
inductive AlarmEvent
  | RAISE (c : AlarmCode) (detail : Int)
  | CLEAR (c : AlarmCode)
  deriving DecidableEq, Repr

/-- What the alarm unit does at a raise or a clear (R132 to R134). -/
def takeEvent : AlarmEvent → State → State
  | .RAISE c detail => raise c detail
  | .CLEAR c => clear c

/-- The raises and clears of one event, taken in any order: two or more draw a free choice (R150; log entry 4). -/
def takeInAnyOrder (l : List AlarmEvent) (s : State) : State :=
  match l with
  | [] => s
  | [e] => takeEvent e s
  | l => runEach takeEvent (shuffle l s.choose.1) s.choose.2

/-- The event of a condition: its raise when it appears, its clear when it goes. -/
def changeEvents (c : AlarmCode) (old new : Bool) (detail : Int) : List AlarmEvent :=
  match old, new with
  | false, true => [.RAISE c detail]
  | true, false => [.CLEAR c]
  | false, false | true, true => []

/-- The clear of TABLES_PENDING that is due when the pending copy was READY in an earlier state and is so no more (R72,
R74, R75, R77). -/
def State.tablesEvents (s before : State) : List AlarmEvent :=
  if before.swing.pending.isReady && !s.swing.pending.isReady then [.CLEAR .TABLES_PENDING] else []

/-- The clear of TABLES_PENDING, if it is due since an earlier state; a second one changes nothing (R134). -/
def clearTables (before s : State) : State :=
  takeInAnyOrder (s.tablesEvents before) s

/-! ### The zero-pass interlock -/

/-- The interlocks of a set of motions armed (R165). -/
def armInterlocks (ms : MotionSet) (s : State) : State :=
  s.withPorts { s.ports with interlock := s.ports.interlock.union ms }

/-- The state with the zero-pass-wait condition replaced. -/
def State.withZeroPassWait (s : State) (v : Bool) : State :=
  s.withPorts { s.ports with zeroPassWait := v }

/-- The event of the zero-pass-wait condition as the flags, demands and holders now make it (R166). -/
def State.zeroPassEvents (s : State) : List AlarmEvent :=
  changeEvents .ZERO_PASS_WAIT s.ports.zeroPassWait s.waiting.nonEmpty s.waiting.code

/-- The zero-pass-wait condition judged, with its raise or clear when it changes (R166). -/
def judgeZeroPass (s : State) : State :=
  takeInAnyOrder s.zeroPassEvents (s.withZeroPassWait s.waiting.nonEmpty)

/-- The zero-pass-wait condition judged at an event that may also have brought brake S to SET: its raise or clear (R166) and
the clear of TABLES_PENDING (R74) are taken in any order (R150). -/
def judgeZeroPassSince (before s : State) : State :=
  takeInAnyOrder (s.zeroPassEvents ++ s.tablesEvents before) (s.withZeroPassWait s.waiting.nonEmpty)

/-! ### After a removal -/

/-- DRIVE_ENABLE as the chain and the list give it (R99). -/
def judgeDriveEnable (s : State) : State :=
  s.withOut { s.out with driveEnable := s.isOn .ESTOP_OK && !s.listed .ESTOP }

/-- Whether a code had an entry in a list that the present one lacks. -/
def State.lost (s : State) (l : List AlarmEntry) (c : AlarmCode) : Bool :=
  l.any (fun e => e.code == c) && !s.listed c

/-- A sequencer in FAULT enters SET when its BRAKE_FAULT entry has left the list (R93). -/
def leaveFault (l : List AlarmEntry) (m : Motion) (s : State) : State :=
  if (s.brake m).state = .FAULT ∧ s.lost l (brakeFaultCode m) then enterSet m s else s

/-- The motions whose inhibit of a class ended between the list l and the present one (R137). -/
def State.endedInhibits (s : State) (l : List AlarmEntry) (c : AlarmClass) : MotionSet :=
  (coverage l c).minus (coverage s.alarms.list c)

/-- The interlocks of the motions whose TRIP or STOP inhibit has ended are armed (R137, R165). -/
def armEnded (l : List AlarmEntry) (s : State) : State :=
  armInterlocks ((s.endedInhibits l .TRIP).union (s.endedInhibits l .STOP)) s

/-- What the blocks do when entries have left the list or lost motions, l being the list before: interlocks are armed
(R137), faulted brakes enter SET (R93), DRIVE_ENABLE returns (R99) and the exit from TRANSFER_FAULT is judged (R109). -/
def removalActs (l : List AlarmEntry) (s : State) : State :=
  judgeRemoval l (judgeDriveEnable (runEach (leaveFault l) motions (armEnded l s)))

/-- The acts of a removal, after which the zero-pass-wait condition (R166) and the annunciation (R146) are judged. -/
def afterRemoval (l : List AlarmEntry) (s : State) : State :=
  annunciate (judgeZeroPassSince s (removalActs l s))

/-! ### Outcomes -/

/-- The end of an event: the clear of TABLES_PENDING where the work has not taken it yet, and the list-change counter. -/
def endEvent (s s' : State) : State :=
  settle s (clearTables s s')

/-- The outcome of an event's work. -/
def event (s : State) (work : State → State) : Host.Outcome State Fault Refusal :=
  .next (endEvent s (work s))

/-- The outcome of an expiry command: a stopped timer does not expire; a running one does, at its end (log entry 3). -/
def expiry (s : State) (t : Timer) (work : State → State) : Host.Outcome State Fault Refusal :=
  match t with
  | none => .next s
  | some d => .next (endEvent s (work (s.moveTo d)))

end Sys2Proof.Machine
end

