-- ==== Sys2Proof/Machine/Request.lean ====
section
/-! DEFINITION. The transmit queues, the replies, and the way every request of a master is taken before its owner judges
it. -/

namespace Sys2Proof.Machine

/-! ### Transmit queues -/

/-- The number of frames a transmit queue holds (R162). -/
def queueSize : Nat := 8

/-- Whether a port's queue holds 8 frames (R162). -/
def State.queueFull (s : State) (p : Port) : Bool :=
  queueSize ≤ (s.port p).tx.length

/-- The state with a port's queue replaced. -/
def State.setQueue (s : State) (p : Port) (q : List TxFrame) : State :=
  s.setPort p { s.port p with tx := q }

/-- A frame joins a port's queue (R162). -/
def enqueue (p : Port) (f : TxFrame) (s : State) : State :=
  s.setQueue p ((s.port p).tx ++ [f])

/-- The list with its first entry of a kind replaced. -/
def replaceFirst (which : TxFrame → Bool) (f : TxFrame) : List TxFrame → List TxFrame
  | [] => []
  | g :: q => if which g then f :: q else g :: replaceFirst which f q

/-- A periodic frame joins a queue: it takes the place of an unsent one of its kind, the head being the frame that is
being sent; else it is appended while there is room (R162). -/
def putPeriodic (which : TxFrame → Bool) (f : TxFrame) (q : List TxFrame) : List TxFrame :=
  if q.tail.any which then q.take 1 ++ replaceFirst which f q.tail
  else if queueSize ≤ q.length then q
  else q ++ [f]

/-- A STATUS frame. -/
def TxFrame.isStatus : TxFrame → Bool
  | .status _ => true
  | _ => false

/-- A REFERENCE frame. -/
def TxFrame.isReference : TxFrame → Bool
  | .reference _ _ => true
  | _ => false

/-- A REPLY to a request of a kind (R161). -/
def reply (m : Master) (kind : Byte) (result : ReplyResult) (detail : Int) (s : State) : State :=
  enqueue m.port (.reply kind result detail) s

/-- The state with a port's receiver replaced. -/
def State.setReceiver (s : State) (p : Port) (r : Receiver) : State :=
  s.setPort p { s.port p with rx := r }

/-! ### Taking a request -/

/-- The SERVICE timer restarted while it runs (R160, R169). -/
def restartServiceTimer (s : State) : State :=
  if s.ports.serviceTimer.isSome then
    s.withPorts { s.ports with serviceTimer := s.startMs (s.par .SERVICE_TIMEOUT) }
  else s

/-- The clear event of SERVICE_LINK_LOST when its condition is present (R169). -/
def serviceHeard (s : State) : State :=
  if s.ports.serviceLost then
    settle s (clear .SERVICE_LINK_LOST (s.withPorts { s.ports with serviceLost := false }))
  else s

/-- What the arrival of any valid frame of a master does: the receiver returns to HUNT (R160); at the SERVICE port it
restarts the SERVICE timer and is the clear event of SERVICE_LINK_LOST (R169). -/
def frameHeard (m : Master) (s : State) : State :=
  match m with
  | .CAB => s.setReceiver .CAB .HUNT
  | .SERVICE => serviceHeard (restartServiceTimer (s.setReceiver .SERVICE .HUNT))

/-- A request is dropped when the port's queue is full (R162); else it is judged. -/
def unlessFull (m : Master) (judge : State → State) (s : State) : State :=
  if s.queueFull m.port then s else judge s

/-- A request of a fixed length is answered BAD_LENGTH at any other (R161). -/
def ofLength (m : Master) (kind : Byte) (p : List Byte) (n : Nat) (judge : State → State) (s : State) : State :=
  if p.length = n then judge s else reply m kind .BAD_LENGTH p.length s

/-- The arrival of a request with a fixed payload length (R160 to R162). -/
def request (m : Master) (kind : Byte) (p : List Byte) (n : Nat) (judge : State → State) (s : State) : State :=
  unlessFull m (ofLength m kind p n judge) (frameHeard m s)

/-- The arrival of a frame of a kind not accepted at its port (R161). -/
def unknownKind (m : Master) (kind : Byte) (s : State) : State :=
  unlessFull m (reply m kind .UNKNOWN_KIND 0) (frameHeard m s)

/-- UNKNOWN_KIND (R161). -/
def execUnknownKind (m : Master) (kind : Byte) (_p : List Byte) (s : State) : Host.Outcome State Fault Refusal :=
  event s (unknownKind m kind)

/-- FRAME_TRANSMITTED: the frame being sent has gone, and the next one starts (R162). -/
def execFrameTransmitted (p : Port) (s : State) : Host.Outcome State Fault Refusal :=
  event s fun s => s.setQueue p ((s.port p).tx.drop 1)

end Sys2Proof.Machine
end

