-- ==== Sys2Proof/Machine/AlarmUnit.lean ====
section
/-! DEFINITION. The alarm unit: its four requests, the pattern and envelope timers, the AUX changes, and the horn
switching. -/

namespace Sys2Proof.Machine

/-- The kind byte of an ALARM_ACK (10 section 10.3). -/
def kindAlarmAck : Byte := 0x20

/-- The kind byte of an ALARM_SILENCE (10 section 10.3). -/
def kindAlarmSilence : Byte := 0x21

/-- The kind byte of an ALARM_RESET (10 section 10.3). -/
def kindAlarmReset : Byte := 0x22

/-- The kind byte of an ALARM_READ (10 section 10.3). -/
def kindAlarmRead : Byte := 0x23

/-- A request from SERVICE is answered NOT_HOLDER while LOCAL_KEY is off (R141). -/
def ifMayAnswer (m : Master) (kind : Byte) (judge : State → State) (s : State) : State :=
  if m = .SERVICE ∧ s.isOn .LOCAL_KEY = false then reply m kind .NOT_HOLDER 0 s else judge s

/-! ### ALARM_ACK -/

/-- What an acknowledge makes of an entry; none when the entry is removed (R142). -/
def AlarmEntry.acked (e : AlarmEntry) (now : BitVec 32) : Option AlarmEntry :=
  match e.state with
  | .ACTIVE_UNACK => some { e with state := .ACTIVE_ACK, last := now }
  | .CLEARED_UNACK => if e.cls.latches then some { e with state := .CLEARED_LATCHED, last := now } else none
  | .ACTIVE_ACK | .CLEARED_LATCHED => some e

/-- A code of an ALARM_ACK names an entry; 0 names every entry (R142). -/
def AlarmEntry.named (code : Nat) (e : AlarmEntry) : Bool :=
  code == 0 || e.code.number == code

/-- The list after an acknowledge (R142). -/
def ackList (code : Nat) (now : BitVec 32) (l : List AlarmEntry) : List AlarmEntry :=
  l.filterMap fun e => if e.named code then e.acked now else some e

/-- The number of entries an acknowledge changes (R142). -/
def ackCount (code : Nat) (l : List AlarmEntry) : Nat :=
  (l.filter fun e => e.named code && e.unacked).length

/-- The entries named are acknowledged (R142). -/
def acknowledge (code : Nat) (s : State) : State :=
  afterRemoval s.alarms.list (s.setList (ackList code s.ms s.alarms.list))

/-- An ALARM_ACK that is taken (R142). -/
def takeAck (m : Master) (code : Nat) (s : State) : State :=
  reply m kindAlarmAck .OK (ackCount code s.alarms.list) (acknowledge code s)

/-- An ALARM_ACK judged (R141, R142). -/
def judgeAlarmAck (m : Master) (p : List Byte) (s : State) : State :=
  if 45 < u8 p 0 then reply m kindAlarmAck .RANGE 0 s else ifMayAnswer m kindAlarmAck (takeAck m (u8 p 0)) s

/-- The arrival of an ALARM_ACK (R142). -/
def alarmAck (m : Master) (p : List Byte) : State → State :=
  request m kindAlarmAck p 1 (judgeAlarmAck m p)

/-- ALARM_ACK (R142). -/
def execAlarmAck (m : Master) (p : List Byte) (s : State) : Host.Outcome State Fault Refusal :=
  event s (alarmAck m p)

/-! ### ALARM_SILENCE -/

/-- The silence flag is set (R143). -/
def silence (s : State) : State :=
  annunciate (s.withAlarms { s.alarms with silence := true })

/-- The arrival of an ALARM_SILENCE (R143). -/
def alarmSilence (m : Master) (p : List Byte) : State → State :=
  request m kindAlarmSilence p 0
    (ifMayAnswer m kindAlarmSilence fun s => reply m kindAlarmSilence .OK 0 (silence s))

/-- ALARM_SILENCE (R143). -/
def execAlarmSilence (m : Master) (p : List Byte) (s : State) : Host.Outcome State Fault Refusal :=
  event s (alarmSilence m p)

/-! ### ALARM_RESET -/

/-- Every brake of a scope is SET or FAULT (R144). -/
def State.scopeRests (s : State) (ms : MotionSet) : Bool :=
  motions.all fun m => !ms.get m || (s.brake m).state == .SET || (s.brake m).state == .FAULT

/-- An entry that an ALARM_RESET removes (R144). -/
def State.resettable (s : State) (e : AlarmEntry) : Bool :=
  e.state == .CLEARED_LATCHED && s.scopeRests e.scope

/-- The removals of an ALARM_RESET with the clearing of OVERFLOW, and what follows (R144). -/
def resetList (s : State) : State :=
  afterRemoval s.alarms.list (s.withAlarms { s.alarms with
    list := s.alarms.list.filter fun e => !s.resettable e
    overflow := false })

/-- An ALARM_RESET that is taken (R144). -/
def takeReset (m : Master) (s : State) : State :=
  reply m kindAlarmReset .OK (s.alarms.list.filter s.resettable).length (resetList s)

/-- The arrival of an ALARM_RESET (R144). -/
def alarmReset (m : Master) (p : List Byte) : State → State :=
  request m kindAlarmReset p 0 (ifMayAnswer m kindAlarmReset (takeReset m))

/-- ALARM_RESET (R144). -/
def execAlarmReset (m : Master) (p : List Byte) (s : State) : Host.Outcome State Fault Refusal :=
  event s (alarmReset m p)

/-! ### ALARM_READ -/

/-- The number of entries a page carries (R149). -/
def pageSize : Nat := 8

/-- The page of an ALARM_READ (R149). -/
def State.alarmPage (s : State) (start : Nat) : TxFrame :=
  .alarmPage s.alarms.list.length s.alarms.counter s.alarms.overflow ((s.alarms.list.drop start).take pageSize)

/-- An ALARM_READ judged (R149). -/
def judgeAlarmRead (m : Master) (p : List Byte) (s : State) : State :=
  enqueue m.port (s.alarmPage (u8 p 0)) s

/-- The arrival of an ALARM_READ (R149). -/
def alarmRead (m : Master) (p : List Byte) : State → State :=
  request m kindAlarmRead p 1 (judgeAlarmRead m p)

/-- ALARM_READ (R149). -/
def execAlarmRead (m : Master) (p : List Byte) (s : State) : Host.Outcome State Fault Refusal :=
  event s (alarmRead m p)

/-! ### Pattern, envelope, horn -/

/-- The next pattern step (R145). -/
def nextStep (period : Int) (step : Nat) : Nat :=
  if (step : Int) + 1 < period then step + 1 else 0

/-- PATTERN_TIMER_EXPIRY (R145). -/
def execPatternTimerExpiry (s : State) : Host.Outcome State Fault Refusal :=
  expiry s s.alarms.patternTimer fun s =>
    annunciate (s.withAlarms { s.alarms with
      step := nextStep (s.par .PATTERN_PERIOD) s.alarms.step
      patternTimer := s.startMs 125 })

/-- The envelope level rises by one; the timer runs again below level 8 (R147). -/
def envelopeExpires (s : State) : State :=
  s.withAlarms { s.alarms with
    envLevel := s.alarms.envLevel + 1
    envTimer := if s.alarms.envLevel + 1 < 8 then s.startMs (s.par .ENVELOPE_STEP) else none }

/-- ENVELOPE_TIMER_EXPIRY (R147). -/
def execEnvelopeTimerExpiry (s : State) : Host.Outcome State Fault Refusal :=
  expiry s s.alarms.envTimer envelopeExpires

/-- A write that sets ENVELOPE_ON to OFF or to ON: off the level is 1, on the timer starts from the present level (R147;
log entry 17). -/
def envelopeSwitched (s : State) : State :=
  s.withAlarms { s.alarms with
    envLevel := if s.par .ENVELOPE_ON = 1 then s.alarms.envLevel else 1
    envTimer := if s.par .ENVELOPE_ON = 1 then s.startMs (s.par .ENVELOPE_STEP) else none }

/-- The horn line within its period: off after the on time, and on again at the next period's start (R20). -/
def hornSwitches (s : State) : State :=
  if s.out.horn && decide (1 < s.horn.level) then
    (s.withOut { s.out with horn := false }).withHorn
      { s.horn with timer := some (s.time + (1000 - hornOnTime s.horn.level)) }
  else startHornPeriod s

/-- HORN_SWITCHING_PERIOD: the next switching of the horn line is due (R20). -/
def execHornSwitchingPeriod (s : State) : Host.Outcome State Fault Refusal :=
  expiry s s.horn.timer hornSwitches

/-! ### Changes of the AUX conditions -/

/-- The change event of an auxiliary input (R139). -/
def auxInputChange (a : Aux) (on : Bool) : State → State :=
  if on then raise (auxCode a) 0 else clear (auxCode a)

/-- An entry with a new class and scope; none when it is removed, a CLEARED_LATCHED entry that becomes WARN (R140). -/
def AlarmEntry.reclassed (e : AlarmEntry) (cls : AlarmClass) (scope : MotionSet) : Option AlarmEntry :=
  if e.state = .CLEARED_LATCHED ∧ cls.latches = false then none else some { e with cls := cls, scope := scope }

/-- The list with the entry of a code given a new class and scope (R140). -/
def reclassList (c : AlarmCode) (cls : AlarmClass) (scope : MotionSet) (l : List AlarmEntry) : List AlarmEntry :=
  l.filterMap fun e => if e.code = c then e.reclassed cls scope else some e

/-- The motions for which a change of class or scope counts as an entry to the list (R140). -/
def gainedBy (e : AlarmEntry) (cls : AlarmClass) (scope : MotionSet) : MotionSet :=
  if e.cls = cls then scope.minus e.scope else scope

/-- What the entry's change hands to sequencers and recorder: a change to TRIP is a trigger too (R140). -/
def reclassEffects (e : AlarmEntry) (cls : AlarmClass) (scope : MotionSet) (s : State) : State :=
  if cls = .TRIP ∧ e.cls = .TRIP then actOn .TRIP (gainedBy e cls scope) s
  else entryEffects e.code cls (gainedBy e cls scope) s

/-- The entry of an AUX code takes the class and scope of the profile, and the blocks act on what it takes away (R137,
R140). -/
def reclass (a : Aux) (e : AlarmEntry) (s : State) : State :=
  removalActs s.alarms.list (reclassEffects e (s.auxClass a) (s.auxScope a)
    (s.setList (reclassList e.code (s.auxClass a) (s.auxScope a) s.alarms.list)))

/-- A change of class or scope of an AUX code whose condition is or is not present, before zero-pass-wait condition and
annunciation are judged (R140). -/
def auxChanged (a : Aux) (present : Bool) (s : State) : State :=
  match s.alarms.list.find? fun e => e.code == auxCode a with
  | some e => reclass a e s
  | none => if present && (s.auxClass a).latches then raise (auxCode a) 0 s else s

/-- A write of class or scope of an AUX code (R140), with the zero-pass-wait condition (R166) and the annunciation (R146). -/
def auxWritten (a : Aux) (s : State) : State :=
  annunciate (judgeZeroPassSince s (auxChanged a (s.isOn (auxInput a)) s))

end Sys2Proof.Machine
end

