-- ==== Sys2Proof/Machine/Authority.lean ====
section
/-! DEFINITION. The port unit's demands, the authority table with CLAIM and RELEASE, and the SERVICE timer. -/

namespace Sys2Proof.Machine

/-! ### Demands -/

/-- The length of a DEMAND (R161). -/
def demandLength : Nat := 9

/-- One value of a DEMAND, clamped, or 0 with ENABLE clear (R163). -/
def demandValue (p : List Byte) (offset : Nat) : Int :=
  if bit0 p 8 then clamp (-1000) 1000 (s16 p offset) else 0

/-- The four values of a DEMAND (R163, 10 section 10.9). -/
def demandValues (p : List Byte) : PerMotion Int :=
  ⟨demandValue p 0, demandValue p 2, demandValue p 4, demandValue p 6⟩

/-- The state with a master's demand record replaced. -/
def State.setDemand (s : State) (m : Master) (d : DemandRecord) : State :=
  s.withPorts { s.ports with demand := s.ports.demand.set m d }

/-- A demand record filled, its hold timer restarted (R163). -/
def fillDemand (m : Master) (p : List Byte) (s : State) : State :=
  s.setDemand m ⟨demandValues p, s.startMs (s.par .DEMAND_HOLD), false⟩

/-- What a CAB DEMAND also does: contact is made, and it is the clear event of CAB_LINK_LOST (R163). -/
def cabHeard (s : State) : State :=
  if s.ports.cabLost then
    clear .CAB_LINK_LOST (s.withPorts { s.ports with cabContact := true, cabLost := false })
  else s.withPorts { s.ports with cabContact := true }

/-- The motions of the sender whose value is near zero (R166). -/
def State.nearZero (s : State) (m : Master) : MotionSet :=
  PerMotion.of fun x => s.holds m x && decide (mag ((s.ports.demand.get m).value.get x) ≤ 20)

/-- Armed interlocks of the sender's motions disarmed by values near zero (R166). -/
def disarm (m : Master) (s : State) : State :=
  s.withPorts { s.ports with interlock := s.ports.interlock.minus (s.nearZero m) }

/-- A DEMAND of the right length (R163, R166). -/
def takeDemand (m : Master) (p : List Byte) (s : State) : State :=
  judgeZeroPass (disarm m ((if m = .CAB then cabHeard else id) (fillDemand m p s)))

/-- The arrival of a DEMAND: one of another length is dropped (R161, R163). It is carried out whatever the queue holds
(R162). -/
def demand (m : Master) (p : List Byte) (s : State) : State :=
  if p.length = demandLength then takeDemand m p (frameHeard m s) else frameHeard m s

/-- DEMAND (R163). -/
def execDemand (m : Master) (p : List Byte) (s : State) : Host.Outcome State Fault Refusal :=
  event s (demand m p)

/-- A record expires (R164). -/
def expireDemand (m : Master) (s : State) : State :=
  s.setDemand m { s.ports.demand.get m with timer := none, expired := true }

/-- CAB_LINK_LOST, with the set of motions CAB holds (R164). -/
def loseCab (s : State) : State :=
  raiseScoped .CAB_LINK_LOST (s.heldBy .CAB) (s.heldBy .CAB).code (s.withPorts { s.ports with cabLost := true })

/-- The expiry of a master's hold timer (R164, R166). -/
def demandExpires (m : Master) (s : State) : State :=
  judgeZeroPassSince s ((if m = .CAB ∧ s.ports.cabContact = true then loseCab else id) (expireDemand m s))

/-- DEMAND_HOLD_EXPIRY (R164). -/
def execDemandHoldExpiry (m : Master) (s : State) : Host.Outcome State Fault Refusal :=
  expiry s (s.ports.demand.get m).timer (demandExpires m)

/-! ### Authority -/

/-- Motions pass to a master: each whose holder changes has its interlock armed (R165, R167, R168). -/
def giveTo (m : Master) (ms : MotionSet) (s : State) : State :=
  s.withPorts { s.ports with
    authority := PerMotion.of fun x => if ms.get x then m else s.ports.authority.get x
    interlock := PerMotion.of fun x => s.ports.interlock.get x || (ms.get x && s.ports.authority.get x != m) }

/-- The SERVICE timer stops when SERVICE holds no motion (R169). -/
def stopIdleService (s : State) : State :=
  if (s.heldBy .SERVICE).nonEmpty then s else s.withPorts { s.ports with serviceTimer := none }

/-- The motions of a set that SERVICE holds pass to CAB (R168, R169). -/
def giveBack (ms : MotionSet) (s : State) : State :=
  stopIdleService (giveTo .CAB ms s)

/-- Every motion passes to CAB at the change of LOCAL_KEY to off (R168). -/
def keyOff (s : State) : State :=
  judgeZeroPass (giveBack MotionSet.full s)

/-- The kind byte of a CLAIM (10 section 10.3). -/
def kindClaim : Byte := 0x30

/-- The kind byte of a RELEASE (10 section 10.3). -/
def kindRelease : Byte := 0x31

/-- A motion set code is out of range (R167, R168). -/
def badSet (n : Nat) : Bool :=
  n == 0 || decide (15 < n)

/-- Every brake of a set is SET (R167). -/
def State.allSet (s : State) (ms : MotionSet) : Bool :=
  motions.all fun m => !ms.get m || (s.brake m).state == .SET

/-- The SERVICE timer starts when SERVICE held no motion before (R167, R169). -/
def startServiceTimer (s : State) : State :=
  if (s.heldBy .SERVICE).nonEmpty then s
  else s.withPorts { s.ports with serviceTimer := s.startMs (s.par .SERVICE_TIMEOUT) }

/-- A claim granted (R167). -/
def grant (ms : MotionSet) (s : State) : State :=
  judgeZeroPass (giveTo .SERVICE ms (startServiceTimer s))

/-- A CLAIM judged (R167). -/
def judgeClaim (p : List Byte) (s : State) : State :=
  if badSet (u8 p 0) then reply .SERVICE kindClaim .RANGE 0 s
  else if !s.isOn .LOCAL_KEY then reply .SERVICE kindClaim .REFUSED_STATE 1 s
  else if !s.allSet (MotionSet.ofCode (u8 p 0)) then reply .SERVICE kindClaim .REFUSED_STATE 2 s
  else
    reply .SERVICE kindClaim .OK ((grant (MotionSet.ofCode (u8 p 0)) s).heldBy .SERVICE).code
      (grant (MotionSet.ofCode (u8 p 0)) s)

/-- The arrival of a CLAIM (R167). -/
def claim (p : List Byte) : State → State :=
  request .SERVICE kindClaim p 1 (judgeClaim p)

/-- CLAIM (R167). -/
def execClaim (p : List Byte) (s : State) : Host.Outcome State Fault Refusal :=
  event s (claim p)

/-- The motions of a set released (R168). -/
def releaseSet (ms : MotionSet) (s : State) : State :=
  judgeZeroPass (giveBack ms s)

/-- A RELEASE judged (R168). -/
def judgeRelease (p : List Byte) (s : State) : State :=
  if badSet (u8 p 0) then reply .SERVICE kindRelease .RANGE 0 s
  else
    reply .SERVICE kindRelease .OK ((releaseSet (MotionSet.ofCode (u8 p 0)) s).heldBy .SERVICE).code
      (releaseSet (MotionSet.ofCode (u8 p 0)) s)

/-- The arrival of a RELEASE (R168). -/
def release (p : List Byte) : State → State :=
  request .SERVICE kindRelease p 1 (judgeRelease p)

/-- RELEASE (R168). -/
def execRelease (p : List Byte) (s : State) : Host.Outcome State Fault Refusal :=
  event s (release p)

/-- The SERVICE link has timed out: a set of motions passes to CAB, and SERVICE_LINK_LOST is raised for it (R169). -/
def loseService (held : MotionSet) (s : State) : State :=
  judgeZeroPassSince s (raiseScoped .SERVICE_LINK_LOST held held.code
    ((giveTo .CAB MotionSet.full s).withPorts
      { (giveTo .CAB MotionSet.full s).ports with serviceTimer := none, serviceLost := true }))

/-- SERVICE_TIMER_EXPIRY (R169). -/
def execServiceTimerExpiry (s : State) : Host.Outcome State Fault Refusal :=
  expiry s s.ports.serviceTimer fun s => loseService (s.heldBy .SERVICE) s

end Sys2Proof.Machine
end

