-- ==== Sys2Proof/Machine/Brakes.lean ====
section
/-! DEFINITION. The brake sequencers: faults, feedback, the brake timers, the set delay, and the judgements at a reference
period and at a stored DRIVE_STATUS arrival. -/

namespace Sys2Proof.Machine

/-! ### Brake faults -/

/-- The state with a sequencer's fault condition replaced. -/
def State.withFaultCond (s : State) (m : Motion) (v : Bool) : State :=
  s.putBrake m { s.brake m with faultCond := v }

/-- The state with a sequencer's proof lockout replaced. -/
def State.withLockout (s : State) (m : Motion) (v : Bool) : State :=
  s.putBrake m { s.brake m with lockout := v }

/-- The fault condition is cleared when the feedback is off with the coil off (R93). -/
def clearFault (m : Motion) (s : State) : State :=
  if (s.brake m).faultCond && !s.feedbackOn m && !(s.brake m).state.coilOn then
    clear (brakeFaultCode m) (s.withFaultCond m false)
  else s

/-- The raise of a brake fault, and its clear at once when the feedback is off (R93). -/
def raiseFault (m : Motion) (detail : Int) (s : State) : State :=
  clearFault m (raise (brakeFaultCode m) detail (s.withFaultCond m true))

/-- A brake fault: the sequencer enters FAULT with the coil off and raises its code (R88 to R92). -/
def enterFault (m : Motion) (detail : Int) (s : State) : State :=
  raiseFault m detail (s.setBrake m .FAULT none)

/-! ### The set delay -/

/-- What R91 asks for before the set delay starts. -/
def State.mayStartSetDelay (s : State) (m : Motion) : Bool :=
  (s.brake m).state == .RELEASED && s.drive.output.get (channelOf m) == 0 && s.drive.bounded.get m == 0
    && (s.chan (standstillSource m)).standstill && (s.brake m).timer.isNone

/-- The set delay judged (R91). -/
def judgeSetDelay (m : Motion) (s : State) : State :=
  if s.mayStartSetDelay m then s.putBrake m { s.brake m with timer := s.startMs (s.par .SET_DELAY) } else s

/-- What the sequencers do when a channel comes to standstill (R91). -/
def brakesAtStandstill (ch : CountCh) (s : State) : State :=
  runEach judgeSetDelay (motions.filter fun m => standstillSource m == ch) s

/-! ### Feedback -/

/-- The change event of a brake's feedback to on (R88 to R90, R93). -/
def feedbackRises (m : Motion) (s : State) : State :=
  match (s.brake m).state with
  | .SET => if s.inhibited m then raiseFault m 1 s else enterFault m 1 s
  | .PROVING => enterFault m 1 s
  | .OPENING => judgeSetDelay m (s.setBrake m .RELEASED none)
  | .FAULT => if (s.brake m).faultCond then s else raiseFault m 5 s
  | .RELEASED | .CLOSING => s

/-- The change event of a brake's feedback to off (R91 to R93). -/
def feedbackFalls (m : Motion) (s : State) : State :=
  match (s.brake m).state with
  | .RELEASED => enterFault m 3 s
  | .CLOSING => clearFault m (enterSet m s)
  | .SET | .FAULT => clearFault m s
  | .PROVING | .OPENING => s

/-- The change event of a brake's feedback (R88 to R93). -/
def feedbackChange (m : Motion) (on : Bool) : State → State :=
  if on then feedbackRises m else feedbackFalls m

/-! ### Brake timers -/

/-- The proof threshold of a brake (R88). -/
def proofParam : Motion → Param
  | .H => .PROOF_H
  | .D => .PROOF_D
  | .S => .PROOF_S
  | .W => .PROOF_W

/-- The current last stored for a brake's channel. -/
def State.currentOf (s : State) (m : Motion) : Int :=
  (s.fb.chan.get (channelOf m)).current

/-- The alarm of a failed proof, for H and D (R89). -/
def raiseProofFail (m : Motion) (s : State) : State :=
  match m with
  | .H => raise .PROOF_FAIL_H (s.currentOf .H) s
  | .D => raise .PROOF_FAIL_D (s.currentOf .D) s
  | .S | .W => s

/-- The clear of a failed proof, for H and D (R89). -/
def clearProofFail (m : Motion) (s : State) : State :=
  match m with
  | .H => clear .PROOF_FAIL_H s
  | .D => clear .PROOF_FAIL_D s
  | .S | .W => s

/-- The proof has failed: SET, the lockout, the alarm (R89). -/
def proofFails (m : Motion) (s : State) : State :=
  raiseProofFail m ((enterSet m s).withLockout m true)

/-- The brake timer of a sequencer, when it runs for a state (05 section 5.4). -/
def State.brakeTimer (s : State) (m : Motion) (st : BrakeState) : Timer :=
  if (s.brake m).state = st then (s.brake m).timer else none

/-- PROOF_TIMER_EXPIRY (R89). -/
def execProofTimerExpiry (m : Motion) (s : State) : Host.Outcome State Fault Refusal :=
  expiry s (s.brakeTimer m .PROVING) (proofFails m)

/-- OPEN_TIME_EXPIRY (R90). -/
def execOpenTimeExpiry (m : Motion) (s : State) : Host.Outcome State Fault Refusal :=
  expiry s (s.brakeTimer m .OPENING) (enterFault m 2)

/-- SET_DELAY_EXPIRY (R91). -/
def execSetDelayExpiry (m : Motion) (s : State) : Host.Outcome State Fault Refusal :=
  expiry s (s.brakeTimer m .RELEASED) (closeBrake m)

/-- CLOSE_TIME_EXPIRY (R92). -/
def execCloseTimeExpiry (m : Motion) (s : State) : Host.Outcome State Fault Refusal :=
  expiry s (s.brakeTimer m .CLOSING) (enterFault m 4)

/-! ### At a reference period -/

/-- The proof lockout is cleared by a bounded target of 0, with the clear of PROOF_FAIL (R88, R89). -/
def clearLockout (m : Motion) (s : State) : State :=
  if (s.brake m).lockout then clearProofFail m (s.withLockout m false) else s

/-- What R88 asks for before a sequencer leaves SET, its bounded target aside. -/
def State.mayOpen (s : State) (m : Motion) : Bool :=
  s.ports.link.inStep && (s.fb.chan.get (channelOf m)).ready && s.isOn .ESTOP_OK && !(s.brake m).lockout
    && !s.inhibited m

/-- OPENING begins: the coil is energized and the open time runs (R88, R89). -/
def startOpening (m : Motion) (s : State) : State :=
  s.setBrake m .OPENING (s.startMs (s.par .OPEN_TIME))

/-- A sequencer leaves SET: to PROVING, or to OPENING with a threshold of 0 (R88). -/
def leaveSet (m : Motion) (s : State) : State :=
  if 0 < s.par (proofParam m) then s.setBrake m .PROVING (s.startMs (s.par .PROOF_TIME)) else startOpening m s

/-- A nonzero bounded target at a reference period (R88, R91). -/
def judgeMoving (m : Motion) (s : State) : State :=
  match (s.brake m).state with
  | .SET => if s.mayOpen m then leaveSet m s else s
  | .RELEASED => s.putBrake m { s.brake m with timer := none }
  | .PROVING => if s.inhibited m then enterSet m s else s
  | .OPENING | .CLOSING | .FAULT => s

/-- A bounded target of 0 at a reference period (R88, R89, R91). -/
def judgeResting (m : Motion) (s : State) : State :=
  match (s.brake m).state with
  | .PROVING => enterSet m s
  | .RELEASED => judgeSetDelay m s
  | .SET | .OPENING | .CLOSING | .FAULT => s

/-- The judgement of a sequencer at a reference period, from the bounded target stored for its motion (R88, R89, R91,
R94). -/
def judgeBrake (m : Motion) (s : State) : State :=
  if s.drive.bounded.get m = 0 then judgeResting m (clearLockout m s) else judgeMoving m s

/-! ### At a stored arrival -/

/-- The proof judged from the current just stored (R89). -/
def judgeProof (m : Motion) (s : State) : State :=
  if (s.brake m).state = .PROVING ∧ s.par (proofParam m) ≤ s.currentOf m then startOpening m s else s

/-- The action of a ready flag that is off on the active brake of its channel (R95). -/
def readyLost (c : Channel) (s : State) : State :=
  if (s.fb.chan.get c).ready then s
  else
    match activeBrake s.walk.transfer c with
    | some m => tripAct m s
    | none => s

/-- What the sequencers do at a stored arrival (R89, R95). -/
def brakesReadFeedback (s : State) : State :=
  runEach readyLost channels (runEach judgeProof motions s)

end Sys2Proof.Machine
end

