-- ==== Sys2Proof/Machine/Cams.lean ====
section
/-! DEFINITION. The cams of the walk unit: alignment and sync at an index, skew, and the step state at a counted edge. -/

namespace Sys2Proof.Machine

/-- The sync alarm of a cam (R113). -/
def camSyncCode : Cam → AlarmCode
  | .L => .CAM_SYNC_L
  | .R => .CAM_SYNC_R

/-- The state with a cam record replaced. -/
def State.setCam (s : State) (c : Cam) (r : CamRecord) : State :=
  s.withWalk { s.walk with cams := s.walk.cams.set c r }

/-- The state with the step state replaced. -/
def State.setStep (s : State) (st : StepState) : State :=
  s.withWalk { s.walk with step := st }

/-- The state with the skew condition replaced. -/
def State.withSkewCond (s : State) (v : Bool) : State :=
  s.withWalk { s.walk with skewCond := v }

/-- The index count of a cam (R111). -/
def State.camIndexCount (s : State) : Int :=
  s.par .CAM_INDEX_ANGLE * s.par .CAM_CPR / 3600

/-- The difference an index sees, from the count it carries (R111). -/
def State.camIndexDiff (s : State) (count : Int) : Int :=
  angDiff (s.camAngleAt count) (s.par .CAM_INDEX_ANGLE)

/-- An index agrees (R111). -/
def State.camAgrees (s : State) (count : Int) : Bool :=
  mag (s.camIndexDiff count) ≤ s.par .CAM_INDEX_TOL

/-- The skew condition judged while both cams are SYNCED (R115). -/
def judgeSkew (s : State) : State :=
  if s.bothSynced then
    if s.par .SKEW_LIMIT < mag s.skew then
      if s.walk.skewCond then s else raise .CAM_SKEW s.skew (s.withSkewCond true)
    else
      if s.walk.skewCond then clear .CAM_SKEW (s.withSkewCond false) else s
  else s

/-- A cam is aligned, and what an alignment lets be judged (R111, R115, R121). -/
def alignCam (c : Cam) (s : State) : State :=
  judgeSteering (judgeSkew (s.setCount (camCh c) s.camIndexCount))

/-- The clear event of a cam's sync condition (R112). -/
def clearCamSync (c : Cam) (present : Bool) (s : State) : State :=
  if present then clear (camSyncCode c) s else s

/-- The skew condition clears when a cam leaves SYNCED (R115). -/
def clearSkew (s : State) : State :=
  if s.walk.skewCond then clear .CAM_SKEW (s.withSkewCond false) else s

/-- A sync change: a cam has left SYNCED (R113, R115, R118, R121). -/
def leftSync (s : State) : State :=
  judgeSteering (clearSkew (s.setStep .ARMED))

/-- An index of a cam that is SYNCING (R112). -/
def indexSyncing (c : Cam) (count : Int) (r : CamRecord) (s : State) : State :=
  if s.camAgrees count then
    if 3 ≤ r.field + 1 then clearCamSync c r.cond (alignCam c (s.setCam c ⟨.SYNCED, 0, false⟩))
    else alignCam c (s.setCam c { r with field := r.field + 1 })
  else alignCam c (s.setCam c { r with field := 1 })

/-- An index of a cam that is SYNCED (R113). -/
def indexSynced (c : Cam) (count : Int) (r : CamRecord) (s : State) : State :=
  if s.camAgrees count then alignCam c (s.setCam c { r with field := 0 })
  else if 3 ≤ r.field + 1 then
    leftSync (raise (camSyncCode c) (s.camIndexDiff count) (s.setCam c ⟨.UNSYNCED, 0, true⟩))
  else s.setCam c { r with field := r.field + 1 }

/-- An index event of a cam, judged by the count it carries; no rule of the walk unit reads its stamp (R13, R112, R113). -/
def camIndex (c : Cam) (e : IndexEvent) (s : State) : State :=
  match (s.walk.cams.get c).sync with
  | .UNSYNCED => alignCam c (s.setCam c { s.walk.cams.get c with sync := .SYNCING, field := 1 })
  | .SYNCING => indexSyncing c e.count (s.walk.cams.get c) s
  | .SYNCED => indexSynced c e.count (s.walk.cams.get c) s

/-- The step state works (R118). -/
def State.stepWorks (s : State) : Bool :=
  s.walk.transfer == .WALK && s.walk.stepMode == .SINGLE && s.bothSynced

/-- The step state after a counted edge of CAM_L in direction d, the cam being at park before it and after it or not
(R118). A HELD cam that has coasted out of the window latches at its next edge by the rule for ARMED (log entry 30). -/
def stepAfter (d : Sign) (before after : Bool) : StepState → StepState
  | .ARMED => if after then .ARMED else .IN_CYCLE d
  | .IN_CYCLE e => if after && d == e then .HELD e else .IN_CYCLE e
  | .HELD e => if before || after then .HELD e else .IN_CYCLE d

/-- The step state judged at a counted edge of CAM_L (R118). -/
def stepEdge (d : Sign) (before : Bool) (s : State) : State :=
  if s.stepWorks then s.setStep (stepAfter d before s.atPark s.walk.step) else s

/-- What the walk unit does at a counted edge of a channel, CAM_L being at park before it or not (R115, R118, R121). -/
def camEdge (ch : CountCh) (d : Sign) (before : Bool) (s : State) : State :=
  match ch with
  | .CAM_L => judgeSteering (stepEdge d before (judgeSkew s))
  | .CAM_R => judgeSteering (judgeSkew s)
  | .HOIST | .DRAG | .SWING => s

/-- Both cams become UNSYNCED at a change of a cam parameter (R114). -/
def unsyncCams (s : State) : State :=
  (if s.camSync .L = .SYNCED ∨ s.camSync .R = .SYNCED then leftSync else id)
    (s.withWalk { s.walk with cams :=
      ⟨{ s.walk.cams.L with sync := .UNSYNCED, field := 0 }, { s.walk.cams.R with sync := .UNSYNCED, field := 0 }⟩ })

end Sys2Proof.Machine
end

