-- ==== Sys2Proof/Machine/HoistDrag.lean ====
section
/-! DEFINITION. The hoist and drag limiter: the slow-down form, the rope terms, the boom-jack zone, the limits, the
targets and the three limit conditions. -/

namespace Sys2Proof.Machine

/-- The slow-down limit for a margin and a span (R40); a NO_ENTRY approach has the same form (R66). -/
def slowDown (creep m span : Int) : Int :=
  if m ≤ 0 then 0 else max creep (min 1000 (1000 * m / span))

/-- The slow-down limit with the present CREEP. -/
def State.slowDown (s : State) (m : Int) (span : Param) : Int :=
  Machine.slowDown (s.par .CREEP) m (s.par span)

/-- The two-block term (R41). -/
def State.twoBlock (s : State) (lh : Int) : Int :=
  s.slowDown (lh - s.par .HOIST_MIN_LEN) .HOIST_SLOW_SPAN

/-- The hoist payout term (R41). -/
def State.hoistPayout (s : State) (lh : Int) : Int :=
  s.slowDown (s.par .HOIST_MAX_LEN - lh) .HOIST_SLOW_SPAN

/-- The fairlead term (R42). -/
def State.fairlead (s : State) (ld : Int) : Int :=
  s.slowDown (ld - s.par .DRAG_MIN_LEN) .DRAG_SLOW_SPAN

/-- The drag payout term (R42). -/
def State.dragPayout (s : State) (ld : Int) : Int :=
  s.slowDown (s.par .DRAG_MAX_LEN - ld) .DRAG_SLOW_SPAN

/-- The bucket is in the boom-jack zone (R43). -/
def State.inJackZone (s : State) (p : Position) : Bool :=
  decide (s.par .JACK_A ≤ p.a) && decide (p.h < s.par .JACK_H)

/-- The jack limit of a position in the zone (R43). -/
def State.jackLimit (s : State) (p : Position) : Int :=
  if p.h ≤ s.par .JACK_H_STOP then 0
  else max (s.par .CREEP) (1000 * (p.h - s.par .JACK_H_STOP) / (s.par .JACK_H - s.par .JACK_H_STOP))

/-- A limit toward the chord, with the jack limit in the zone (R44). -/
def State.withJack (s : State) (p : Position) (limit : Int) : Int :=
  if s.inJackZone p then min limit (s.jackLimit p) else limit

/-- What a VALID bucket record gives the limiter; none from any other record (R45). -/
def State.validRecord (s : State) : Option (Int × Int × Position) :=
  match s.geo.record.status, s.geo.record.lh, s.geo.record.ld, s.geo.record.pos with
  | .VALID, some h, some d, some p => some (h, d, p)
  | _, _, _, _ => none

/-- Four limits: hoist up, hoist down, drag in, drag out. -/
structure Limits where
  up : Int
  down : Int
  dragIn : Int
  dragOut : Int
  deriving DecidableEq, Repr

/-- The limits in DIG with the overhoist switch off (R44, R45). -/
def State.digLimits (s : State) : Limits :=
  match s.validRecord with
  | some (h, d, p) => ⟨s.withJack p (s.twoBlock h), s.hoistPayout h, s.withJack p (s.fairlead d), s.dragPayout d⟩
  | none => ⟨s.par .CREEP, s.par .CREEP, s.par .CREEP, s.par .CREEP⟩

/-- The four limits of a reference period (R44 to R47). -/
def State.limits (s : State) : Limits :=
  if s.walk.transfer = .DIG then
    if s.isOn .OVERHOIST_SW then { s.digLimits with up := 0 } else s.digLimits
  else ⟨0, 0, 0, 0⟩

/-- The limit record with the limits and targets of a period (R44 to R47, R50). -/
def State.limitRecord (s : State) (l : Limits) : Envelope :=
  { s.env with
    hoistUp := l.up
    hoistDown := l.down
    dragIn := l.dragIn
    dragOut := l.dragOut
    hoistTarget := boundDemand (s.effectiveDemand .H) l.up l.down
    dragTarget := boundDemand (s.effectiveDemand .D) l.dragIn l.dragOut }

/-- The three limit conditions judged from a VALID record; any other leaves them (R51 to R53). -/
def State.withLimitConds (s : State) (e : Envelope) : Envelope :=
  match s.validRecord with
  | some (h, d, p) =>
    { e with
      hoistTop := s.twoBlock h < 1000
      fairlead := s.fairlead d < 1000
      jackZone := s.inJackZone p }
  | none => e

/-- The raises and clears of the three limit conditions at a reference period (R51 to R53). -/
def State.limitEvents (s : State) : List AlarmEvent :=
  match s.validRecord with
  | some (h, d, p) =>
    changeEvents .HOIST_TOP_LIMIT s.env.hoistTop (s.twoBlock h < 1000) (s.twoBlock h)
      ++ changeEvents .DRAG_FAIRLEAD_LIMIT s.env.fairlead (s.fairlead d < 1000) (s.fairlead d)
      ++ changeEvents .JACK_ZONE s.env.jackZone (s.inJackZone p) (s.jackLimit p)
  | none => []

/-- The work of the hoist and drag limiter at a reference period, its raises and clears aside (R39 to R53). -/
def hoistDragWork (s : State) : State :=
  s.withEnv (s.withLimitConds (s.limitRecord s.limits))

end Sys2Proof.Machine
end

