-- ==== Sys2Proof/Machine/Swing.lean ====
section
/-! DEFINITION. The swing limiter: the index, the load state, the radius and zone tables, the limits and the target, and
the staging of the tables. -/

namespace Sys2Proof.Machine

/-! ### Index and load -/

/-- The count of the index angle (R58). -/
def State.swingIndexCount (s : State) : Int :=
  s.par .SWING_INDEX_ANGLE * s.par .SWING_CPR / 3600

/-- The state with the swing-slip condition replaced. -/
def State.withSwingSlip (s : State) (v : Bool) : State :=
  s.withSwing { s.swing with slip := v }

/-- The clear of SWING_SLIP when its condition is present (R58, R59). -/
def clearSwingSlip (s : State) : State :=
  if s.swing.slip then clear .SWING_SLIP (s.withSwingSlip false) else s

/-- The slip check of an index, from its difference (R59). -/
def swingSlipCheck (diff : Int) (s : State) : State :=
  if s.par .SWING_INDEX_TOL < mag diff then raise .SWING_SLIP diff (s.withSwingSlip true) else clearSwingSlip s

/-- An index event of the SWING channel, judged by the count it carries; no rule of the limiter reads its stamp (R13, R58,
R59). -/
def swingIndex (e : IndexEvent) (s : State) : State :=
  if s.swing.referenced then
    (swingSlipCheck (angDiff (s.swingAngleAt e.count) (s.par .SWING_INDEX_ANGLE)) s).setCount .SWING s.swingIndexCount
  else
    clearSwingSlip (clear .SWING_UNREF
      ((s.setCount .SWING s.swingIndexCount).withSwing { s.swing with referenced := true }))

/-- The load state judged from a hoist current (R61). -/
def loadAfter (loadOn loadOff current : Int) (old : LoadState) : LoadState :=
  if loadOn ≤ current then .LOADED else if current ≤ loadOff then .EMPTY else old

/-- What the swing limiter does at a stored arrival (R61). -/
def loadReadsFeedback (s : State) : State :=
  s.withSwing { s.swing with
    load := loadAfter (s.par .LOAD_ON) (s.par .LOAD_OFF) (s.fb.chan.get .HOIST).current s.swing.load }

/-! ### Limits -/

/-- The entry of the greatest radius at or below R, or the first entry when R is below it (R63). -/
def bandOf (R : Int) : RadiusEntry → List RadiusEntry → RadiusEntry
  | e, [] => e
  | e, f :: l => if (f.radius : Int) ≤ R then bandOf R f l else e

/-- The limit of an entry for a load state (R63). -/
def RadiusEntry.limit (e : RadiusEntry) : LoadState → Int
  | .EMPTY => e.emptyLimit
  | .LOADED => e.loadedLimit

/-- The radius limit of a table at a bucket radius (R63). -/
def radiusLimit (creep : Int) (load : LoadState) (R : Option Int) : List RadiusEntry → Int
  | [] => 1000
  | e :: l =>
    match R with
    | some r => (bandOf r e l).limit load
    | none => creep

/-- An angle is inside a sector (R64). -/
def ZoneEntry.holds (z : ZoneEntry) (α : Int) : Bool :=
  decide (0 < cwDist z.start α) && decide (cwDist z.start α < cwDist z.start z.stop)

/-- A sector is NO_ENTRY (R64). -/
def ZoneEntry.noEntry (z : ZoneEntry) : Bool :=
  z.kind == 1

/-- The results of a SLOW sector (R65). -/
def ZoneEntry.slowResults (z : ZoneEntry) (α : Int) : Int × Int :=
  if z.holds α then ((z.slow.getD 0 : Nat), (z.slow.getD 0 : Nat)) else (1000, 1000)

/-- The results of a NO_ENTRY sector, clockwise and counter-clockwise (R66, R67). -/
def ZoneEntry.noEntryResults (creep span : Int) (z : ZoneEntry) (α : Int) : Int × Int :=
  if z.holds α then
    if cwDist α z.stop ≤ cwDist z.start α then (creep, 0) else (0, creep)
  else (slowDown creep (cwDist α z.start) span, slowDown creep (cwDist z.stop α) span)

/-- The results of a sector (R65 to R67). -/
def ZoneEntry.results (creep span : Int) (z : ZoneEntry) (α : Int) : Int × Int :=
  if z.noEntry then z.noEntryResults creep span α else z.slowResults α

/-- The smallest of a limit and the results of all sectors, in both directions (R69). -/
def zoneLimits (creep span limit α : Int) (zs : List ZoneEntry) : Int × Int :=
  zs.foldl (fun l z => (min l.1 (z.results creep span α).1, min l.2 (z.results creep span α).2)) (limit, limit)

/-- The radius limit of the present period (R63). -/
def State.radiusLimitNow (s : State) : Int :=
  radiusLimit (s.par .CREEP) s.swing.load (s.geo.record.pos.map fun p => p.x) s.store.working.tables.radius

/-- The swing limits of a reference period, clockwise and counter-clockwise (R69, R70). -/
def State.swingLimits (s : State) : Int × Int :=
  if s.walk.transfer = .DIG then
    if s.swing.referenced then
      zoneLimits (s.par .CREEP) (s.par .SWING_APPROACH_SPAN) s.radiusLimitNow s.swingAngle s.store.working.tables.zones
    else (s.par .CREEP, s.par .CREEP)
  else if s.walk.steering then (s.par .STEER_LIMIT, s.par .STEER_LIMIT)
  else (0, 0)

/-- The number of the first NO_ENTRY sector that holds the angle, if any (R68). -/
def State.zoneNumber (s : State) : Option Nat :=
  (s.store.working.tables.zones.findIdx? fun z => z.noEntry && z.holds s.swingAngle).map (· + 1)

/-- The in-zone condition judged while the swing is REFERENCED (R68). -/
def State.inZoneNow (s : State) : Bool :=
  if s.swing.referenced then s.zoneNumber.isSome else s.swing.inZone

/-- The raise or clear of the in-zone condition at a reference period (R68). -/
def State.zoneEvents (s : State) : List AlarmEvent :=
  changeEvents .SWING_IN_ZONE s.swing.inZone s.inZoneNow (s.zoneNumber.getD 0 : Nat)

/-- The work of the swing limiter at a reference period, its raise or clear aside (R68 to R71). -/
def swingWork (s : State) : State :=
  s.withSwing { s.swing with
    cw := s.swingLimits.1
    ccw := s.swingLimits.2
    target := boundDemand (s.effectiveDemand .S) s.swingLimits.1 s.swingLimits.2
    inZone := s.inZoneNow }

/-- The swing count is brought into the range of SWING_CPR (R9). -/
def wrapSwing (s : State) : State :=
  s.setCount .SWING ((s.chan .SWING).count % s.par .SWING_CPR)

/-- The swing reference is lost, with the raise of SWING_UNREF (R60). -/
def loseReference (s : State) : State :=
  raise .SWING_UNREF 0 (s.withSwing { s.swing with referenced := false })

end Sys2Proof.Machine
end

