-- ==== Sys2Proof/Machine/Counting.lean ====
section
/-! DEFINITION. The counting channels: input filters, counting, stamps and speed, standstill, index edges, and the
overspeed supervision of each counted edge. -/

namespace Sys2Proof.Machine

/-! ### Lines and channels -/

/-- The phase or index input that a line is (01 section 1.1). -/
inductive Phase
  | A
  | B
  | Z
  deriving DecidableEq, Repr

/-- The channel of a line (01 section 1.1). -/
def lineCh : CountLine → CountCh
  | .HOIST_A | .HOIST_B => .HOIST
  | .DRAG_A | .DRAG_B => .DRAG
  | .SWING_A | .SWING_B | .SWING_Z => .SWING
  | .CAM_L_A | .CAM_L_B | .CAM_L_Z => .CAM_L
  | .CAM_R_A | .CAM_R_B | .CAM_R_Z => .CAM_R

/-- The phase of a line (01 section 1.1). -/
def linePhase : CountLine → Phase
  | .HOIST_A | .DRAG_A | .SWING_A | .CAM_L_A | .CAM_R_A => .A
  | .HOIST_B | .DRAG_B | .SWING_B | .CAM_L_B | .CAM_R_B => .B
  | .SWING_Z | .CAM_L_Z | .CAM_R_Z => .Z

/-- The A line of a channel. -/
def lineA : CountCh → CountLine
  | .HOIST => .HOIST_A
  | .DRAG => .DRAG_A
  | .SWING => .SWING_A
  | .CAM_L => .CAM_L_A
  | .CAM_R => .CAM_R_A

/-- The B line of a channel. -/
def lineB : CountCh → CountLine
  | .HOIST => .HOIST_B
  | .DRAG => .DRAG_B
  | .SWING => .SWING_B
  | .CAM_L => .CAM_L_B
  | .CAM_R => .CAM_R_B

/-- The filter time of a channel (R2). -/
def filterParam : CountCh → Param
  | .HOIST => .FILTER_H
  | .DRAG => .FILTER_D
  | .SWING => .FILTER_S
  | .CAM_L => .FILTER_CL
  | .CAM_R => .FILTER_CR

/-- The standstill time of a channel (R12). -/
def standstillParam : CountCh → Param
  | .HOIST => .STANDSTILL_H
  | .DRAG => .STANDSTILL_D
  | .SWING => .STANDSTILL_S
  | .CAM_L => .STANDSTILL_CL
  | .CAM_R => .STANDSTILL_CR

/-! ### The input filters -/

/-- The filter timer after a raw change: it runs while raw and accepted level differ (R2). -/
def CountInput.afterRaw (i : CountInput) (level : Bool) (start : Timer) : CountInput :=
  if level = i.raw then i
  else if level = i.accepted then { i with raw := level, timer := none }
  else { i with raw := level, timer := start }

/-- The raw level of a counting input changes (R2). -/
def rawLineChange (l : CountLine) (level : Bool) (s : State) : State :=
  s.setLine l ((s.line l).afterRaw level (s.startUs (s.par (filterParam (lineCh l)))))

/-- COUNT_INPUT_RAW_CHANGE (R2). -/
def execCountInputRawChange (l : CountLine) (level : Bool) (s : State) : Host.Outcome State Fault Refusal :=
  event s (rawLineChange l level)

/-! ### Counting -/

/-- The step of an A edge, from the accepted levels of A and B after it (R4). -/
def stepOfA (a b : Bool) : Sign :=
  if a = b then .minus else .plus

/-- The step of a B edge (R4). -/
def stepOfB (a b : Bool) : Sign :=
  if a = b then .plus else .minus

/-- A channel counts in PULSE mode (R6). -/
def State.pulseMode (s : State) : CountCh → Bool
  | .CAM_L | .CAM_R => s.par .CAM_MODE == 1
  | .HOIST | .DRAG | .SWING => false

/-- The step an edge event of a phase gives its channel, if it is counted (R4, R6). -/
def State.stepOf (s : State) (ch : CountCh) (ph : Phase) : Option Sign :=
  match ph, s.pulseMode ch with
  | .A, true => if (s.line (lineA ch)).accepted then some s.pulseDir else none
  | .B, true | .Z, _ => none
  | .A, false => some (stepOfA (s.line (lineA ch)).accepted (s.line (lineB ch)).accepted)
  | .B, false => some (stepOfB (s.line (lineA ch)).accepted (s.line (lineB ch)).accepted)

/-- The largest magnitude of a HOIST or DRAG count (R8). -/
def countLimit : Int := 2147483647

/-- A step would carry a count past its limit (R8). -/
def stepLost (count : Int) (d : Sign) : Bool :=
  decide (countLimit < count + d.toInt) || decide (count + d.toInt < -countLimit)

/-- The range alarm of a saturating channel (R8). -/
def rangeCode : CountCh → AlarmCode
  | .DRAG => .COUNT_RANGE_D
  | .HOIST | .SWING | .CAM_L | .CAM_R => .COUNT_RANGE_H

/-- A step in a record whose count saturates: a lost step leaves the count and gives the range condition, any other step
takes it away (R8). -/
def CountChannel.saturating (c : CountChannel) (d : Sign) : CountChannel :=
  if stepLost c.count d then { c with rangeCond := true }
  else { c with count := c.count + d.toInt, rangeCond := false }

/-- A step of a wrapping count (R9). -/
def stepWrapping (ch : CountCh) (cpr : Param) (d : Sign) (s : State) : State :=
  s.setCount ch (((s.chan ch).count + d.toInt) % s.par cpr)

/-- A step of a channel's count, without its alarm (R8, R9). -/
def stepCount (ch : CountCh) (d : Sign) (s : State) : State :=
  match ch with
  | .HOIST | .DRAG => s.setChan ch ((s.chan ch).saturating d)
  | .SWING => stepWrapping .SWING .SWING_CPR d s
  | .CAM_L | .CAM_R => stepWrapping ch .CAM_CPR d s

/-- The range alarm of a step, the range condition before it being given: raised at the first lost step, cleared by the
step back inside (R8). -/
def State.rangeEvents (s : State) (ch : CountCh) (d : Sign) (before : Bool) : List AlarmEvent :=
  changeEvents (rangeCode ch) before (s.chan ch).rangeCond d.toInt

/-! ### Stamps, speed, standstill -/

/-- The stamp list with a new stamp, the oldest going first from a full list (R10). -/
def addStamp (stamps : List (BitVec 32)) (now : BitVec 32) : List (BitVec 32) :=
  (if 8 ≤ stamps.length then stamps.drop 1 else stamps) ++ [now]

/-- The encoder speed of a stamp list (R11). -/
def speedOf (stamps : List (BitVec 32)) : Nat :=
  match stamps.head?, stamps.getLast? with
  | some oldest, some newest =>
    if stamps.length < 2 then 0 else (stamps.length - 1) * 1000000 / max 1 (newest - oldest).toNat
  | _, _ => 0

/-- A counted edge in a channel record, but for the count: direction, stamp, speed, standstill (R10 to R12). -/
def CountChannel.edge (c : CountChannel) (d : Sign) (now : BitVec 32) (standstill : Timer) : CountChannel :=
  { c with
    dir := d
    stamps := addStamp c.stamps now
    speed := speedOf (addStamp c.stamps now)
    standstill := false
    timer := standstill }

/-- A counted edge's marks on its channel record (R10 to R12). -/
def markEdge (ch : CountCh) (d : Sign) (s : State) : State :=
  s.setChan ch ((s.chan ch).edge d s.us (s.startMs (s.par (standstillParam ch))))

/-! ### Overspeed -/

/-- The overspeed conditions with one channel's replaced; the cams have none (R98). -/
def PerSpeed.put (p : PerSpeed Bool) (ch : CountCh) (v : Bool) : PerSpeed Bool :=
  match ch with
  | .HOIST => { p with H := v }
  | .DRAG => { p with D := v }
  | .SWING => { p with S := v }
  | .CAM_L | .CAM_R => p

/-- The overspeed condition, threshold and code of a channel; the cams have none (R98). -/
def State.overspeedOf (s : State) : CountCh → Option (Bool × Param × AlarmCode)
  | .HOIST => some (s.drive.overspeed.H, .OVERSPEED_H, .OVERSPEED_H)
  | .DRAG => some (s.drive.overspeed.D, .OVERSPEED_D, .OVERSPEED_D)
  | .SWING => some (s.drive.overspeed.S, .OVERSPEED_S, .OVERSPEED_S)
  | .CAM_L | .CAM_R => none

/-- The state with a channel's overspeed condition replaced. -/
def State.withOverspeed (s : State) (ch : CountCh) (v : Bool) : State :=
  s.withDrive { s.drive with overspeed := s.drive.overspeed.put ch v }

/-- The new speed is above the threshold while the condition is absent (R98). -/
def State.overspeedDue (s : State) (ch : CountCh) : Bool :=
  match s.overspeedOf ch with
  | some (present, threshold, _) => !present && decide (s.par threshold < (s.chan ch).speed)
  | none => false

/-- The overspeed condition becomes present when the new speed is above the threshold (R98). -/
def checkOverspeed (ch : CountCh) (s : State) : State :=
  if s.overspeedDue ch then s.withOverspeed ch true else s

/-- The raise of the overspeed code of a channel, the state before the comparison being given (R98). -/
def State.overspeedEvents (s : State) (ch : CountCh) : List AlarmEvent :=
  match s.overspeedOf ch with
  | some (_, _, code) => if s.overspeedDue ch then [.RAISE code (min 32767 ((s.chan ch).speed : Int))] else []
  | none => []

/-- The clear of an overspeed condition at standstill (R98). -/
def clearOverspeed (ch : CountCh) (s : State) : State :=
  match s.overspeedOf ch with
  | some (present, _, code) => if present then clear code (s.withOverspeed ch false) else s
  | none => s

/-! ### Edges -/

/-- The alarms of an edge in any order: the range alarm of the counting unit (R8) and the overspeed alarm of the channel and
brake unit (R98, R150; log entry 4). -/
def edgeAlarms (ch : CountCh) (d : Sign) (before : Bool) (s : State) : State :=
  takeInAnyOrder (s.rangeEvents ch d before ++ s.overspeedEvents ch) (checkOverspeed ch s)

/-- A counted edge of a channel in a sense (R4, R6, R8 to R12), with its readers: the overspeed supervision (R98) and the
walk unit (R115, R118, R121). -/
def countedEdge (ch : CountCh) (d : Sign) (s : State) : State :=
  camEdge ch d s.atPark (edgeAlarms ch d (s.chan ch).rangeCond (markEdge ch d (stepCount ch d s)))

/-- A phase edge event of a channel (R4, R6). -/
def phaseEdge (ch : CountCh) (ph : Phase) (s : State) : State :=
  match s.stepOf ch ph with
  | some d => countedEdge ch d s
  | none => s

/-- The index event of an index edge of a channel taken now (R13). -/
def State.indexEvent (s : State) (ch : CountCh) : IndexEvent :=
  ⟨ch, s.us, (s.chan ch).count⟩

/-- An index event delivered to the owner of its channel (R13). -/
def deliverIndex (e : IndexEvent) (s : State) : State :=
  match e.ch with
  | .SWING => swingIndex e s
  | .CAM_L => camIndex .L e s
  | .CAM_R => camIndex .R e s
  | .HOIST | .DRAG => s

/-- An index edge of a channel: stamped, and delivered as one index event; it is no counted edge (R13). -/
def indexEdge (ch : CountCh) (s : State) : State :=
  deliverIndex (s.indexEvent ch) s

/-- The edge event of a line whose accepted level has just changed (R2, R13). -/
def edgeEvent (l : CountLine) (s : State) : State :=
  match linePhase l with
  | .Z => if (s.line l).accepted then indexEdge (lineCh l) s else s
  | ph => phaseEdge (lineCh l) ph s

/-- The accepted level takes the raw level (R2). -/
def acceptLine (l : CountLine) (s : State) : State :=
  s.setLine l { s.line l with accepted := (s.line l).raw, timer := none }

/-- FILTER_TIMER_EXPIRY (R2). -/
def execFilterTimerExpiry (l : CountLine) (s : State) : Host.Outcome State Fault Refusal :=
  expiry s (s.line l).timer fun s => edgeEvent l (acceptLine l s)

/-- The channel record at standstill (R12). -/
def CountChannel.atRest (c : CountChannel) : CountChannel :=
  { c with stamps := [], speed := 0, standstill := true, timer := none }

/-- The steering flag judged at a standstill change of CAM_L (R121). -/
def steeringAtStandstill (ch : CountCh) (s : State) : State :=
  if ch = .CAM_L then judgeSteering s else s

/-- A channel comes to standstill, with the readers of the change event: the overspeed conditions (R98), the sequencers
(R91), the steering flag (R121). -/
def comeToRest (ch : CountCh) (s : State) : State :=
  steeringAtStandstill ch (brakesAtStandstill ch (clearOverspeed ch (s.setChan ch (s.chan ch).atRest)))

/-- STANDSTILL_TIMER_EXPIRY (R12). -/
def execStandstillTimerExpiry (ch : CountCh) (s : State) : Host.Outcome State Fault Refusal :=
  expiry s (s.chan ch).timer (comeToRest ch)

end Sys2Proof.Machine
end

