-- ==== Sys2Proof/Machine/Budget.lean ====
section
/-! DEFINITION. The power budget unit: estimates, budget, curtail levels and the two conditions. -/

namespace Sys2Proof.Machine

/-- The power estimate of a channel (R123). -/
def powerEstimate (speed current : Int) : Int :=
  min 2000 (mag speed * mag current / 1000)

/-- The share of a channel (R123). -/
def shareParam : Channel → Param
  | .HOIST => .SHARE_H
  | .DRAG_WALK => .SHARE_DW
  | .SWING => .SHARE_S

/-- The floor of a channel (R125). -/
def floorParam : Channel → Param
  | .HOIST => .CURTAIL_FLOOR_H
  | .DRAG_WALK => .CURTAIL_FLOOR_DW
  | .SWING => .CURTAIL_FLOOR_S

/-- The term of a channel in the machine power (R123). -/
def State.powerTerm (s : State) (c : Channel) : Int :=
  powerEstimate (s.fb.chan.get c).speed (s.fb.chan.get c).current * s.par (shareParam c) / 1000

/-- The machine power P (R123). -/
def State.machinePower (s : State) : Int :=
  s.powerTerm .HOIST + s.powerTerm .DRAG_WALK + s.powerTerm .SWING

/-- The budget B (R124). -/
def State.selectedBudget (s : State) : Int :=
  if s.fb.lineDip then s.par .BUDGET_DIP else s.par .BUDGET_NORMAL

/-- The line-dip condition follows the stored flag (R124). -/
def judgeLineDip (s : State) : State :=
  if s.fb.lineDip then
    if s.budget.dip then s else raise .LINE_DIP s.machinePower (s.withBudget { s.budget with dip := true })
  else
    if s.budget.dip then clear .LINE_DIP (s.withBudget { s.budget with dip := false }) else s

/-- The state with a curtail level replaced. -/
def State.setLevel (s : State) (c : Channel) (v : Int) : State :=
  s.withBudget { s.budget with level := s.budget.level.set c v }

/-- CURTAIL_ORDER as it stands (R125). -/
def State.curtailOrder (s : State) : List Channel :=
  curtailOrderOf (s.par .CURTAIL_ORDER)

/-- The channel lowered: the first in the order above its floor (R125). -/
def State.toLower (s : State) : Option Channel :=
  s.curtailOrder.find? fun c => decide (s.par (floorParam c) < s.budget.level.get c)

/-- The channel raised: the last in the order below 1000 (R125). -/
def State.toRaise (s : State) : Option Channel :=
  s.curtailOrder.reverse.find? fun c => decide (s.budget.level.get c < 1000)

/-- One level lowered by a step, not below its floor (R125). -/
def lowerLevel (s : State) : State :=
  match s.toLower with
  | some c => s.setLevel c (max (s.par (floorParam c)) (s.budget.level.get c - s.par .CURTAIL_STEP))
  | none => s

/-- One level raised by a step, not above 1000 (R125). -/
def raiseLevel (s : State) : State :=
  match s.toRaise with
  | some c => s.setLevel c (min 1000 (s.budget.level.get c + s.par .CURTAIL_STEP))
  | none => s

/-- The adjustment of at most one level (R125). -/
def adjustLevels (s : State) : State :=
  if s.selectedBudget < s.machinePower then lowerLevel s
  else if s.machinePower < s.selectedBudget - s.par .CURTAIL_BAND then raiseLevel s
  else s

/-- Some level is below 1000 (R126). -/
def Budget.curtailed (b : Budget) : Bool :=
  channels.any fun c => decide (b.level.get c < 1000)

/-- The lowest of the three levels (R126). -/
def Budget.lowest (b : Budget) : Int :=
  min b.level.HOIST (min b.level.DRAG_WALK b.level.SWING)

/-- The curtail condition follows the levels (R126). -/
def judgeCurtail (s : State) : State :=
  if s.budget.curtailed then
    if s.budget.curtail then s
    else raise .POWER_CURTAIL s.budget.lowest (s.withBudget { s.budget with curtail := true })
  else
    if s.budget.curtail then clear .POWER_CURTAIL (s.withBudget { s.budget with curtail := false }) else s

/-- What the budget unit does at a stored arrival (R123 to R126). -/
def budgetReadsFeedback (s : State) : State :=
  judgeCurtail (adjustLevels (judgeLineDip s))

/-- A floor write raises a level below the new floor (R128). -/
def floorWritten (c : Channel) (s : State) : State :=
  if s.budget.level.get c < s.par (floorParam c) then judgeCurtail (s.setLevel c (s.par (floorParam c))) else s

/-- The levels return to 1000 at a profile load (R129). -/
def budgetAtLoad (s : State) : State :=
  judgeCurtail (s.withBudget { s.budget with level := PerChannel.all 1000 })

end Sys2Proof.Machine
end

