-- ==== Sys2Proof/Machine/Transfer.lean ====
section
/-! DEFINITION. The transfer between dig and walk, and the walk lubrication. -/

namespace Sys2Proof.Machine

/-! ### Changes of the transfer record -/

/-- The coil demand with its line (R19, R100). -/
def setCoil (v : Bool) (s : State) : State :=
  (s.withWalk { s.walk with coil := v }).withOut { s.out with xfer := v }

/-- What the sequencers do when the transfer state changes from one state to another (R96). -/
def transferAct (old new : TransferState) : State → State :=
  match old with
  | .DIG => if new = .DIG then id else tripAct .D
  | .WALK => if new = .WALK then id else tripAct .W
  | .TO_WALK | .TO_DIG | .TRANSFER_FAULT => id

/-- A change of the transfer state: the sequencers act (R96), the steering flag is judged (R121). -/
def changeTransfer (t : TransferState) (s : State) : State :=
  judgeSteering (transferAct s.walk.transfer t (s.withWalk { s.walk with transfer := t }))

/-- Entry to TO_WALK on an accepted request (R103). -/
def enterToWalk (mode : StepMode) (s : State) : State :=
  changeTransfer .TO_WALK (setCoil true (s.withWalk { s.walk with
    modeReq := .WALK, stepMode := mode, timer := s.startMs (s.par .TRANSFER_TIME) }))

/-- Entry to TO_DIG on an accepted request (R105). -/
def enterToDig (s : State) : State :=
  changeTransfer .TO_DIG (setCoil false (s.withWalk { s.walk with
    modeReq := .DIG, timer := s.startMs (s.par .TRANSFER_TIME) }))

/-- Entry to WALK: the transfer is complete (R104), the step state is ARMED (R118). -/
def enterWalk (s : State) : State :=
  changeTransfer .WALK (s.withWalk { s.walk with timer := none, step := .ARMED })

/-- Entry to DIG at the end of TO_DIG (R106). -/
def enterDig (s : State) : State :=
  changeTransfer .DIG (s.withWalk { s.walk with timer := none })

/-- Entry to TRANSFER_FAULT (R100, R104, R106, R107). -/
def enterTransferFault (s : State) : State :=
  changeTransfer .TRANSFER_FAULT (setCoil false (s.withWalk { s.walk with modeReq := .DIG, timer := none }))

/-! ### Transfer conditions -/

/-- The clear of TRANSFER_TIMEOUT when its condition is present. -/
def clearTimeout (s : State) : State :=
  if s.walk.timeoutCond then clear .TRANSFER_TIMEOUT (s.withWalk { s.walk with timeoutCond := false }) else s

/-- The clear of TRANSFER_POSITION when its condition is present. -/
def clearPosition (s : State) : State :=
  if s.walk.positionCond then clear .TRANSFER_POSITION (s.withWalk { s.walk with positionCond := false }) else s

/-- In TRANSFER_FAULT a dig reading clears the transfer conditions (R108). -/
def clearTransferConds (s : State) : State :=
  if s.contactor = .DIG then clearPosition (clearTimeout s) else s

/-- The raise of TRANSFER_POSITION, which makes its condition present (R107, R108). -/
def raisePosition (detail : Int) (s : State) : State :=
  raise .TRANSFER_POSITION detail (s.withWalk { s.walk with positionCond := true })

/-- A disagreement: the raise, the entry to TRANSFER_FAULT, and the clear when the reading is dig all the same (R107,
R108). -/
def disagree (detail : Int) (s : State) : State :=
  clearTransferConds (enterTransferFault (raisePosition detail s))

/-- The detail of a contactor reading that is not the position asked for (R107). -/
def readingDetail : Contactor → Int
  | .NEITHER => 1
  | .BOTH => 2
  | .DIG | .WALK => 3

/-! ### Judgements -/

/-- The handshake of TO_WALK and TO_DIG, which completes when contactor and drive both agree (R104, R106). -/
def judgeHandshake (s : State) : State :=
  match s.walk.transfer with
  | .TO_WALK => if s.contactor = .WALK ∧ s.driveReport = .WALK then enterWalk s else s
  | .TO_DIG => if s.contactor = .DIG ∧ s.driveReport = .DIG then enterDig s else s
  | .DIG | .WALK | .TRANSFER_FAULT => s

/-- A change event of a contactor input in TRANSFER_FAULT (R108, R109). -/
def faultReading (s : State) : State :=
  if s.contactor = .DIG then judgeTransferExit (clearTransferConds s)
  else if s.walk.timeoutCond || s.walk.positionCond then s
  else raisePosition (readingDetail s.contactor) s

/-- What the walk unit does at a change event of XFER_DIG_FB or XFER_WALK_FB (R104, R106 to R109). -/
def contactorChange (s : State) : State :=
  match s.walk.transfer with
  | .DIG => if s.contactor = .DIG then s else disagree (readingDetail s.contactor) s
  | .WALK => if s.contactor = .WALK then s else disagree (readingDetail s.contactor) s
  | .TO_WALK | .TO_DIG => judgeHandshake s
  | .TRANSFER_FAULT => faultReading s

/-- What the walk unit does at a stored DRIVE_STATUS arrival (R104, R106 to R109). -/
def walkReadsFeedback (s : State) : State :=
  match s.walk.transfer with
  | .DIG => if s.driveReport = .WALK then disagree 4 s else s
  | .WALK => if s.driveReport = .DIG then disagree 4 s else s
  | .TO_WALK | .TO_DIG => judgeHandshake s
  | .TRANSFER_FAULT => judgeTransferExit (clearTransferConds s)

/-! ### The transfer timer -/

/-- What was missing at the expiry: 1 the contactor, 2 the drive, 3 both (R104); neither cannot be missing, log entry
20. -/
def missing (contactor drive : Bool) : Int :=
  (if contactor then 0 else 1) + (if drive then 0 else 2)

/-- The transfer has timed out: the raise, the entry to TRANSFER_FAULT, and the clear when the reading is dig (R104,
R106, R108). -/
def timeOut (detail : Int) (s : State) : State :=
  clearTransferConds (enterTransferFault
    (raise .TRANSFER_TIMEOUT detail (s.withWalk { s.walk with timeoutCond := true })))

/-- The detail of a time-out in a transfer state (R104, R106). -/
def State.timeoutDetail (s : State) : Int :=
  if s.walk.transfer = .TO_DIG then 10 + missing (s.contactor == .DIG) (s.driveReport == .DIG)
  else missing (s.contactor == .WALK) (s.driveReport == .WALK)

/-- TRANSFER_TIMER_EXPIRY (R104, R106). -/
def execTransferTimerExpiry (s : State) : Host.Outcome State Fault Refusal :=
  expiry s s.walk.timer fun s => timeOut s.timeoutDetail s

/-! ### MODE_REQUEST -/

/-- The kind byte of a MODE_REQUEST (10 section 10.3). -/
def kindModeRequest : Byte := 0x11

/-- The answer of a MODE_REQUEST (R102). -/
def modeReply (m : Master) (r : ReplyResult) (detail : Int) : State → State :=
  reply m kindModeRequest r detail

/-- A TRIP or STOP entry covers D or W (R103). -/
def State.transferInhibited (s : State) : Bool :=
  s.inhibited .D || s.inhibited .W

/-- The bucket rests on the bench (R103). -/
def State.grounded (s : State) : Bool :=
  match s.geo.record.pos with
  | some p => s.geo.record.status == .VALID && decide (p.z ≤ s.par .GROUND_Z)
  | none => false

/-- The reason a WALK request in DIG is refused for, if any: 1 BRAKES, 2 BUCKET, 3 LUBE, 4 TUB, 5 LINK, 6 INHIBIT
(R103). -/
def State.walkRefusal (s : State) : Option Int :=
  if !s.brakesSet then some 1
  else if !s.grounded then some 2
  else if !s.isOn .LUBE_OK then some 3
  else if !s.isOn .TUB_SEATED then some 4
  else if !s.ports.link.inStep then some 5
  else if s.transferInhibited then some 6
  else none

/-- The reason a DIG request in WALK is refused for, if any (R105). -/
def State.digRefusal (s : State) : Option Int :=
  if (s.brake .W).state ≠ .SET then some 1
  else if !s.isOn .TUB_SEATED then some 4
  else none

/-- A request carried out unless there is a reason to refuse it. -/
def modeUnless (m : Master) (reason : Option Int) (work : State → State) (s : State) : State :=
  match reason with
  | some d => modeReply m .REFUSED_STATE d s
  | none => modeReply m .OK 0 (work s)

/-- A MODE_REQUEST judged by the transfer state and the target (R102, R103, R105). -/
def judgeMode (m : Master) (target : DigWalk) (mode : StepMode) (s : State) : State :=
  match s.walk.transfer, target with
  | .DIG, .WALK => modeUnless m s.walkRefusal (enterToWalk mode) s
  | .TO_WALK, .DIG => modeUnless m none enterToDig s
  | .WALK, .DIG => modeUnless m s.digRefusal enterToDig s
  | .DIG, .DIG | .TO_WALK, .WALK | .WALK, .WALK | .TO_DIG, _ | .TRANSFER_FAULT, _ =>
    modeReply m .REFUSED_STATE 7 s

/-- The target of a code: 1 DIG, 2 WALK (10 section 10.9). -/
def targetOf (n : Nat) : Option DigWalk :=
  if n = 1 then some .DIG else if n = 2 then some .WALK else none

/-- The step mode of a code: 1 SINGLE, 2 CONTINUOUS (10 section 10.9). -/
def stepModeOf (n : Nat) : Option StepMode :=
  if n = 1 then some .SINGLE else if n = 2 then some .CONTINUOUS else none

/-- A MODE_REQUEST judged (R102): RANGE, then NOT_HOLDER, then by the state. -/
def judgeModeRequest (m : Master) (p : List Byte) (s : State) : State :=
  match targetOf (u8 p 0), stepModeOf (u8 p 1) with
  | some t, some mode =>
    if s.holds m .D && s.holds m .W then judgeMode m t mode s else modeReply m .NOT_HOLDER 0 s
  | _, _ => modeReply m .RANGE 0 s

/-- The arrival of a MODE_REQUEST (R102). -/
def modeRequest (m : Master) (p : List Byte) : State → State :=
  request m kindModeRequest p 2 (judgeModeRequest m p)

/-- MODE_REQUEST (R102). -/
def execModeRequest (m : Master) (p : List Byte) (s : State) : Host.Outcome State Fault Refusal :=
  event s (modeRequest m p)

/-! ### Lubrication -/

/-- The state with the lube timer replaced. -/
def State.withLubeTimer (s : State) (t : Timer) : State :=
  s.withWalk { s.walk with lubeTimer := t }

/-- The lube timer starts when LUBE_OK is off, the walk output is nonzero, the timer is stopped and the condition is
absent (R120). -/
def startLube (s : State) : State :=
  if !s.isOn .LUBE_OK && s.walkOut != 0 && s.walk.lubeTimer.isNone && !s.walk.lubeCond then
    s.withLubeTimer (s.startMs (s.par .LUBE_GRACE))
  else s

/-- What the walk unit does at the change of LUBE_OK to on (R120). -/
def lubeOn (s : State) : State :=
  if s.walk.lubeCond then clear .LUBE_LOW (s.withWalk { s.walk with lubeTimer := none, lubeCond := false })
  else s.withLubeTimer none

/-- What the walk unit does at a change event of LUBE_OK (R120). -/
def lubeChange (on : Bool) : State → State :=
  if on then lubeOn else startLube

/-- What the walk unit does about lubrication at a reference period, its walk output stored (R120). -/
def lubePeriod (s : State) : State :=
  if s.walkOut = 0 then s.withLubeTimer none else startLube s

/-- LUBE_TIMER_EXPIRY (R120). -/
def execLubeTimerExpiry (s : State) : Host.Outcome State Fault Refusal :=
  expiry s s.walk.lubeTimer fun s =>
    raise .LUBE_LOW 0 (s.withWalk { s.walk with lubeTimer := none, lubeCond := true })

end Sys2Proof.Machine
end

