-- ==== Sys2Proof/Machine/DriveLink.lean ====
section
/-! DEFINITION. The drive link: DRIVE_STATUS with the feedback record and its readers, and the miss timer. -/

namespace Sys2Proof.Machine

/-! ### The feedback record -/

/-- The length of a DRIVE_STATUS (R161). -/
def driveStatusLength : Nat := 20

/-- A speed or current as stored (R79). -/
def feedbackValue (p : List Byte) (offset : Nat) : Int :=
  clamp (-2000) 2000 (s16 p offset)

/-- The channel block of a DRIVE_STATUS at an offset (R79, 10 section 10.9). -/
def feedbackBlock (p : List Byte) (offset : Nat) : ChannelFeedback :=
  ⟨feedbackValue p offset, feedbackValue p (offset + 2), bit0 p (offset + 4), u8 p (offset + 5)⟩

/-- The configuration of a code: 1 DIG, 2 WALK, other values NONE (10 section 10.9). -/
def configOf (n : Nat) : DriveConfig :=
  if n = 1 then .DIG else if n = 2 then .WALK else .NONE

/-- The feedback record a DRIVE_STATUS gives (R79). -/
def feedbackOf (p : List Byte) : Feedback :=
  { chan := ⟨feedbackBlock p 0, feedbackBlock p 6, feedbackBlock p 12⟩
    config := configOf (u8 p 18)
    lineDip := bit0 p 19
    stale := false }

/-- The drive fault code of a channel (R80). -/
def driveFaultCode : Channel → AlarmCode
  | .HOIST => .DRIVE_FAULT_H
  | .DRAG_WALK => .DRIVE_FAULT_DW
  | .SWING => .DRIVE_FAULT_S

/-- The fault code of a channel compared with the one stored before it (R80). -/
def judgeDriveFault (before : Feedback) (c : Channel) (s : State) : State :=
  if (s.fb.chan.get c).fault = (before.chan.get c).fault then s
  else if (s.fb.chan.get c).fault = 0 then clear (driveFaultCode c) s
  else raise (driveFaultCode c) (s.fb.chan.get c).fault s

/-! ### The readers of a stored arrival -/

/-- The readers that judge at a stored arrival (R79), the drive fault condition of each channel by itself: two that become
present are two raises that arrive together (R80, R153). LINE_DIP is the line-dip condition of the budget unit, which BUDGET
judges first where it is not yet judged (R124, R125), and TABLES the clear of TABLES_PENDING when brake S has entered SET by
then (R74). -/
inductive Reader
  | LOAD
  | BRAKES
  | FAULT (c : Channel)
  | WALK
  | LINE_DIP
  | BUDGET
  | TABLES
  deriving DecidableEq, Repr

/-- The readers in one order. -/
def readers : List Reader :=
  [.LOAD, .BRAKES, .FAULT .HOIST, .FAULT .DRAG_WALK, .FAULT .SWING, .WALK, .LINE_DIP, .BUDGET, .TABLES]

/-- The judgement of a reader, the state before the arrival being given (R79). -/
def readerWork (before : State) : Reader → State → State
  | .LOAD => loadReadsFeedback
  | .BRAKES => brakesReadFeedback
  | .FAULT c => judgeDriveFault before.fb c
  | .WALK => walkReadsFeedback
  | .LINE_DIP => judgeLineDip
  | .BUDGET => budgetReadsFeedback
  | .TABLES => clearTables before

/-- A frame stored and judged by the readers in a given order (R79; log entry 4). -/
def storeFeedbackIn (order : List Reader) (p : List Byte) (s : State) : State :=
  runEach (readerWork s) order (s.withFb (feedbackOf p))

/-- A frame stored and judged by its readers (R79). -/
def storeFeedback (p : List Byte) (s : State) : State :=
  storeFeedbackIn (shuffle readers s.choose.1) p s.choose.2

/-! ### The link -/

/-- The state with the drive link replaced. -/
def State.withLink (s : State) (l : DriveLink) : State :=
  s.withPorts { s.ports with link := l }

/-- The miss time: floor(1.5 DRIVE_PERIOD) (R170). -/
def State.missTimer (s : State) : Timer :=
  s.startMs (s.par .DRIVE_PERIOD * 3 / 2)

/-- The link locks, with the clear of DRIVE_LINK_LOST when its condition is present (R170). -/
def lockLink (s : State) : State :=
  (if s.ports.link.lost then clear .DRIVE_LINK_LOST else id) (s.withLink ⟨true, 0, 0, s.missTimer, false⟩)

/-- A valid DRIVE_STATUS in OUT_OF_STEP (R170). -/
def statusOutOfStep (p : List Byte) (s : State) : State :=
  if 3 ≤ s.ports.link.lock + 1 then storeFeedback p (lockLink s)
  else s.withLink { s.ports.link with lock := s.ports.link.lock + 1, timer := s.missTimer }

/-- A valid DRIVE_STATUS in IN_STEP (R171). -/
def statusInStep (p : List Byte) (s : State) : State :=
  storeFeedback p (s.withLink { s.ports.link with miss := 0, timer := s.missTimer })

/-- A DRIVE_STATUS judged: one of another length is dropped (R161, R170, R171). -/
def judgeDriveStatus (p : List Byte) (s : State) : State :=
  if p.length = driveStatusLength then
    if s.ports.link.inStep then statusInStep p s else statusOutOfStep p s
  else s

/-- The arrival of a DRIVE_STATUS: the receiver returns to HUNT (R160), and the frame is judged. -/
def driveStatus (p : List Byte) (s : State) : State :=
  judgeDriveStatus p (s.setReceiver .DRIVE .HUNT)

/-- DRIVE_STATUS (R170). -/
def execDriveStatus (p : List Byte) (s : State) : Host.Outcome State Fault Refusal :=
  event s (driveStatus p)

/-- The link is lost: the record is stale, DRIVE_LINK_LOST is raised, the walk unit judges its report (R79, R101,
R171). -/
def loseLink (s : State) : State :=
  judgeHandshake (raise .DRIVE_LINK_LOST 0
    ((s.withFb { s.fb with stale := true }).withLink ⟨false, 0, 0, none, true⟩))

/-- An expiry of the miss timer (R170, R171). -/
def missExpires (s : State) : State :=
  if s.ports.link.inStep then
    if 3 ≤ s.ports.link.miss + 1 then loseLink s
    else s.withLink { s.ports.link with miss := s.ports.link.miss + 1, timer := s.missTimer }
  else s.withLink { s.ports.link with lock := 0, timer := none }

/-- MISS_TIMER_EXPIRY (R170, R171). -/
def execMissTimerExpiry (s : State) : Host.Outcome State Fault Refusal :=
  expiry s s.ports.link.timer missExpires

end Sys2Proof.Machine
end

