-- ==== Sys2Proof/Machine/Geometry.lean ====
section
/-! DEFINITION. The rope geometry unit: lengths, marks, ROPE_SET, the sample and the hold. -/

namespace Sys2Proof.Machine

/-! ### Ropes -/

/-- The counting channel of a rope (R21). -/
def ropeCh : Rope → CountCh
  | .HOIST => .HOIST
  | .DRAG => .DRAG

/-- The scale of a rope (R27). -/
def ropeScale : Rope → Param
  | .HOIST => .HOIST_SCALE
  | .DRAG => .DRAG_SCALE

/-- The mark length of a rope (R23). -/
def ropeMarkLen : Rope → Param
  | .HOIST => .HOIST_MARK_LEN
  | .DRAG => .DRAG_MARK_LEN

/-- The slip alarm of a rope (R24). -/
def ropeSlipCode : Rope → AlarmCode
  | .HOIST => .ROPE_SLIP_H
  | .DRAG => .ROPE_SLIP_D

/-- The brake of a rope (R25). -/
def ropeBrake : Rope → Motion
  | .HOIST => .H
  | .DRAG => .D

/-- The length of a rope with the record M, Cm and the scale K at count C, saturated (R27). -/
def ropeLengthOf (M Cm K C : Int) : Int :=
  clamp (-2147483647) 2147483647 (M + (C - Cm) * K / 65536)

/-- The length a reference gives at a count; none for an UNREFERENCED rope (R27). -/
def RopeRef.length (r : RopeRef) (K C : Int) : Option Int :=
  match r with
  | .UNREFERENCED => none
  | .MARKED M Cm | .MANUAL M Cm => some (ropeLengthOf M Cm K C)

/-- The length of a rope at its present count (R27). -/
def State.ropeLength (s : State) (r : Rope) : Option Int :=
  (s.geo.ref.get r).length (s.par (ropeScale r)) (s.chan (ropeCh r)).count

/-- Both ropes are referenced (R22). -/
def State.bothReferenced (s : State) : Bool :=
  s.geo.ref.HOIST != .UNREFERENCED && s.geo.ref.DRAG != .UNREFERENCED

/-- A rope takes a new reference; the event at which the last rope leaves UNREFERENCED clears ROPE_UNREF (R22). -/
def setReference (r : Rope) (ref : RopeRef) (s : State) : State :=
  (if !s.bothReferenced && (s.withGeo { s.geo with ref := s.geo.ref.set r ref }).bothReferenced then
    clear .ROPE_UNREF else id) (s.withGeo { s.geo with ref := s.geo.ref.set r ref })

/-- The state with a rope's slip condition replaced. -/
def State.withSlip (s : State) (r : Rope) (v : Bool) : State :=
  s.withGeo { s.geo with slip := s.geo.slip.set r v }

/-- The slip check of a predicted length (R24). -/
def slipCheck (r : Rope) (diff : Int) (s : State) : State :=
  if s.par .MARK_TOL < mag diff then
    raise (ropeSlipCode r) (clamp (-32767) 32767 diff) (s.withSlip r true)
  else if s.geo.slip.get r then clear (ropeSlipCode r) (s.withSlip r false)
  else s

/-- A rope mark (R23): the slip check of a referenced rope, then the reference MARKED. -/
def ropeMark (r : Rope) (s : State) : State :=
  setReference r (.MARKED (s.par (ropeMarkLen r)) (s.chan (ropeCh r)).count)
    (match s.ropeLength r with
    | some l => slipCheck r (l - s.par (ropeMarkLen r)) s
    | none => s)

/-! ### ROPE_SET -/

/-- The kind byte of a ROPE_SET (10 section 10.3). -/
def kindRopeSet : Byte := 0x58

/-- The rope of a code: 1 HOIST, 2 DRAG (10 section 10.9). -/
def ropeOf (n : Nat) : Option Rope :=
  if n = 1 then some .HOIST else if n = 2 then some .DRAG else none

/-- A ROPE_SET judged (R25). -/
def judgeRopeSet (p : List Byte) (s : State) : State :=
  match ropeOf (u8 p 0) with
  | some r =>
    if 30000 < u16 p 1 then reply .SERVICE kindRopeSet .RANGE 0 s
    else if (s.brake (ropeBrake r)).state ≠ .SET then reply .SERVICE kindRopeSet .REFUSED_STATE 0 s
    else
      reply .SERVICE kindRopeSet .OK 0 (setReference r (.MANUAL (u16 p 1) (s.chan (ropeCh r)).count) s)
  | none => reply .SERVICE kindRopeSet .RANGE 0 s

/-- The arrival of a ROPE_SET (R25). -/
def ropeSet (p : List Byte) : State → State :=
  request .SERVICE kindRopeSet p 3 (judgeRopeSet p)

/-- ROPE_SET (R25). -/
def execRopeSet (p : List Byte) (s : State) : Host.Outcome State Fault Refusal :=
  event s (ropeSet p)

/-! ### The sample -/

/-- The status of a sample (R29). -/
def sampleStatus (D : Int) (lh ld : Option Int) : GeoStatus :=
  match lh, ld with
  | some h, some d =>
    if h < 0 ∨ 30000 < h ∨ d < 0 ∨ 30000 < d then .RANGE
    else if h + d < D then .SHORT
    else if D < d - h then .DRAG_SLACK
    else if D < h - d then .HOIST_SLACK
    else .VALID
  | _, _ => .UNREFERENCED

/-- The chord coordinate a (R30). -/
def chordA (D lh ld : Int) : Int :=
  roundDiv (ld * ld - lh * lh + D * D) (2 * D).toNat

/-- The depth h for a chord coordinate (R30). -/
def chordH (ld a : Int) : Int :=
  isqrt (ld * ld - a * a).toNat

/-- The machine coordinates of a chord position (R31). -/
def State.positionAt (s : State) (a h : Int) : Position :=
  { a := a
    h := h
    x := s.par .FAIRLEAD_X + roundDiv (a * s.par .CHORD_COS + h * s.par .CHORD_SIN) 32768
    z := s.par .FAIRLEAD_Z + roundDiv (a * s.par .CHORD_SIN - h * s.par .CHORD_COS) 32768 }

/-- The position of two lengths (R30, R31). -/
def State.positionOf (s : State) (lh ld : Int) : Position :=
  s.positionAt (chordA (s.par .CHORD_LEN) lh ld) (chordH ld (chordA (s.par .CHORD_LEN) lh ld))

/-- The position fields of a new record: formed in a VALID sample, else held (R32, R33). -/
def State.newPosition (s : State) (st : GeoStatus) (lh ld : Option Int) : Option Position :=
  match st, lh, ld with
  | .VALID, some h, some d => some (s.positionOf h d)
  | _, _, _ => s.geo.record.pos

/-- The record a sample publishes, from the two lengths (R32, R33). -/
def State.recordOf (s : State) (lh ld : Option Int) : BucketRecord :=
  { status := sampleStatus (s.par .CHORD_LEN) lh ld
    lh := lh
    ld := ld
    pos := s.newPosition (sampleStatus (s.par .CHORD_LEN) lh ld) lh ld
    age := if sampleStatus (s.par .CHORD_LEN) lh ld = .VALID then 0 else min 65535 (s.geo.record.age + 1) }

/-- The record the next sample publishes (R28). -/
def State.nextRecord (s : State) : BucketRecord :=
  s.recordOf (s.ropeLength .HOIST) (s.ropeLength .DRAG)

/-- The end of the hold at a VALID sample, with the clear of GEOMETRY_LOST (R32). -/
def endHold (s : State) : State :=
  if s.geo.lost then clear .GEOMETRY_LOST (s.withGeo { s.geo with holdTimer := none, lost := false })
  else s.withGeo { s.geo with holdTimer := none }

/-- The hold at a sample that is not VALID: it starts unless it runs or has expired since the last VALID sample (R34). -/
def beginHold (s : State) : State :=
  if s.geo.holdTimer.isNone && !s.geo.lost then
    s.withGeo { s.geo with holdTimer := s.startMs (s.par .GEO_HOLD_TIME) }
  else s

/-- A geometry sample (R28, R32 to R34). -/
def geometrySample (s : State) : State :=
  (if s.nextRecord.status = .VALID then endHold else beginHold)
    (s.withGeo { s.geo with record := s.nextRecord, sampleTimer := s.startMs (s.par .GEO_PERIOD) })

/-- GEOMETRY_SAMPLE (R28). -/
def execGeometrySample (s : State) : Host.Outcome State Fault Refusal :=
  expiry s s.geo.sampleTimer geometrySample

/-- The code of a status in the detail of GEOMETRY_LOST (R34). -/
def geoStatusCode : GeoStatus → Nat
  | .VALID => 0
  | .UNREFERENCED => 1
  | .RANGE => 2
  | .SHORT => 3
  | .DRAG_SLACK => 4
  | .HOIST_SLACK => 5

/-- The expiry of the hold timer (R34). -/
def holdExpires (s : State) : State :=
  raise .GEOMETRY_LOST (geoStatusCode s.geo.record.status) (s.withGeo { s.geo with holdTimer := none, lost := true })

/-- GEOMETRY_HOLD_EXPIRY (R34). -/
def execGeometryHoldExpiry (s : State) : Host.Outcome State Fault Refusal :=
  expiry s s.geo.holdTimer holdExpires

end Sys2Proof.Machine
end

