-- ==== Sys2Proof/Machine/Tables.lean ====
section
/-! DEFINITION. The staging of the swing tables: TABLE_WRITE, TABLE_APPLY, TABLE_DISCARD and TABLE_READ. A copy that leaves
READY has its clear of TABLES_PENDING at the end of the event (endEvent). -/

namespace Sys2Proof.Machine

/-- The kind byte of a TABLE_WRITE (10 section 10.3). -/
def kindTableWrite : Byte := 0x50

/-- The kind byte of a TABLE_APPLY (10 section 10.3). -/
def kindTableApply : Byte := 0x51

/-- The kind byte of a TABLE_DISCARD (10 section 10.3). -/
def kindTableDiscard : Byte := 0x52

/-- The kind byte of a TABLE_READ (10 section 10.3). -/
def kindTableRead : Byte := 0x53

/-- RADIUS or ZONE. -/
inductive TableName
  | RADIUS
  | ZONE
  deriving DecidableEq, Repr

/-- The table of a code: 1 RADIUS, 2 ZONE (10 section 10.9). -/
def tableOf (n : Nat) : Option TableName :=
  if n = 1 then some .RADIUS else if n = 2 then some .ZONE else none

/-- An entry place filled with zeros (R72; log entry 21). -/
def RadiusEntry.zero : RadiusEntry :=
  ⟨0, 0, 0⟩

/-- A sector place filled with zeros (R72; log entry 21). -/
def ZoneEntry.zero : ZoneEntry :=
  ⟨0, 0, 0, some 0⟩

/-- Eight places holding a list, the rest filled. -/
def places {α : Type} (fill : α) (l : List α) : Vector α 8 :=
  Vector.ofFn fun i => l.getD i fill

/-- A pending copy made from the active tables (R72). -/
def PendingCopy.ofActive (t : SwingTables) : PendingCopy :=
  ⟨places RadiusEntry.zero t.radius, t.radius.length, places ZoneEntry.zero t.zones, t.zones.length⟩

/-- The copy a write acts on: the pending one, or a fresh one from the active copy (R72). -/
def State.editCopy (s : State) : PendingCopy :=
  match s.swing.pending with
  | .ABSENT => PendingCopy.ofActive s.store.working.tables
  | .EDITING c | .READY c => c

/-- The radius entry of a TABLE_WRITE payload (10 section 10.9). -/
def radiusEntryOf (p : List Byte) : RadiusEntry :=
  ⟨u16 p 2, u16 p 4, u16 p 6⟩

/-- The sector of a TABLE_WRITE payload; a NO_ENTRY sector has no slow limit (R72, 10 section 10.9). -/
def zoneEntryOf (p : List Byte) : ZoneEntry :=
  ⟨u16 p 2, u16 p 4, u8 p 6, if u8 p 6 = 1 then none else some (u16 p 7)⟩

/-- A place of an entry number 1 to 8. -/
def placeOf (item : Nat) : Fin 8 :=
  ⟨(item - 1) % 8, Nat.mod_lt _ (by decide)⟩

/-- A write applied to a copy: item 0 is the count, 1 to 8 an entry (R72). -/
def PendingCopy.write (c : PendingCopy) (t : TableName) (p : List Byte) : PendingCopy :=
  match t with
  | .RADIUS =>
    if u8 p 1 = 0 then { c with radiusCount := u8 p 2 }
    else { c with radius := c.radius.set (placeOf (u8 p 1)) (radiusEntryOf p) }
  | .ZONE =>
    if u8 p 1 = 0 then { c with zoneCount := u8 p 2 }
    else { c with zones := c.zones.set (placeOf (u8 p 1)) (zoneEntryOf p) }

/-- The length a TABLE_WRITE has for its table and item (10 section 10.9). -/
def tableWriteLength (t : TableName) (item : Nat) : Nat :=
  if item = 0 then 3
  else
    match t with
    | .RADIUS => 8
    | .ZONE => 9

/-- The answer of a TABLE_WRITE. -/
def tableWriteReply (r : ReplyResult) (detail : Int) : State → State :=
  reply .SERVICE kindTableWrite r detail

/-- A TABLE_WRITE of a table, its item and length still to be judged (R72, R161). -/
def judgeTableItem (t : TableName) (p : List Byte) (s : State) : State :=
  if 8 < u8 p 1 then tableWriteReply .RANGE 0 s
  else if p.length ≠ tableWriteLength t (u8 p 1) then tableWriteReply .BAD_LENGTH p.length s
  else if u8 p 1 = 0 ∧ 8 < u8 p 2 then tableWriteReply .RANGE 0 s
  else tableWriteReply .OK 0 (s.withPendingTables (.EDITING (s.editCopy.write t p)))

/-- A TABLE_WRITE judged: BAD_LENGTH when shorter than 2, then the table, the item, the length, the count (R72, R161). -/
def judgeTableWrite (p : List Byte) (s : State) : State :=
  if p.length < 2 then tableWriteReply .BAD_LENGTH p.length s
  else
    match tableOf (u8 p 0) with
    | some t => judgeTableItem t p s
    | none => tableWriteReply .RANGE 0 s

/-- The arrival of a TABLE_WRITE (R72). -/
def tableWrite (p : List Byte) (s : State) : State :=
  unlessFull .SERVICE (judgeTableWrite p) (frameHeard .SERVICE s)

/-- TABLE_WRITE (R72). -/
def execTableWrite (p : List Byte) (s : State) : Host.Outcome State Fault Refusal :=
  event s (tableWrite p)

/-! ### TABLE_APPLY -/

/-- A radius entry's own fields are in range (R73). -/
def RadiusEntry.inRange (e : RadiusEntry) : Bool :=
  decide (e.radius ≤ 30000) && decide (e.emptyLimit ≤ 1000) && decide (e.loadedLimit ≤ 1000)

/-- The number of the first radius entry that fails, the entry before the list being given (R73). -/
def firstBadRadius : Option Nat → Nat → List RadiusEntry → Option Nat
  | _, _, [] => none
  | before, n, e :: l =>
    if e.inRange && before.all (fun b => b < e.radius) then firstBadRadius (some e.radius) (n + 1) l else some n

/-- A sector passes the check (R73). -/
def ZoneEntry.ok (z : ZoneEntry) : Bool :=
  decide (z.start ≤ 3599) && decide (z.stop ≤ 3599) && z.start != z.stop
    && (z.kind == 1 || (z.kind == 2 && z.slow.all fun v => v ≤ 1000))

/-- The detail of the first failing entry of a pair of tables, if any (R73). -/
def SwingTables.firstBad (t : SwingTables) : Option Nat :=
  match firstBadRadius none 1 t.radius with
  | some n => some n
  | none => (t.zones.findIdx? fun z => !z.ok).map (· + 11)

/-- The answer of a TABLE_APPLY. -/
def tableApplyReply (r : ReplyResult) (detail : Int) : State → State :=
  reply .SERVICE kindTableApply r detail

/-- A copy waits READY: TABLES_PENDING is raised unless it was READY already (R73). -/
def makeReady (c : PendingCopy) (s : State) : State :=
  (if s.swing.pending.isReady then id else raise .TABLES_PENDING 0) (s.withPendingTables (.READY c))

/-- A copy that has passed the check is activated at once with brake S SET, and else waits READY (R73, R74). -/
def acceptCopy (c : PendingCopy) (s : State) : State :=
  if (s.brake .S).state = .SET then activateCopy c s else makeReady c s

/-- A TABLE_APPLY of a copy (R73). -/
def applyCopy (c : PendingCopy) (s : State) : State :=
  match c.tables.firstBad with
  | some d => tableApplyReply .RANGE d s
  | none => tableApplyReply .OK 0 (acceptCopy c s)

/-- A TABLE_APPLY judged (R73). -/
def judgeTableApply (s : State) : State :=
  match s.swing.pending with
  | .ABSENT => tableApplyReply .REFUSED_STATE 0 s
  | .EDITING c | .READY c => applyCopy c s

/-- The arrival of a TABLE_APPLY (R73). -/
def tableApply (p : List Byte) : State → State :=
  request .SERVICE kindTableApply p 0 judgeTableApply

/-- TABLE_APPLY (R73). -/
def execTableApply (p : List Byte) (s : State) : Host.Outcome State Fault Refusal :=
  event s (tableApply p)

/-! ### TABLE_DISCARD and TABLE_READ -/

/-- The arrival of a TABLE_DISCARD (R75). -/
def tableDiscard (p : List Byte) : State → State :=
  request .SERVICE kindTableDiscard p 0 fun s => reply .SERVICE kindTableDiscard .OK 0 (s.withPendingTables .ABSENT)

/-- TABLE_DISCARD (R75). -/
def execTableDiscard (p : List Byte) (s : State) : Host.Outcome State Fault Refusal :=
  event s (tableDiscard p)

/-- The copy of a code: 1 ACTIVE, 2 PENDING (10 section 10.9). -/
def copyOf (n : Nat) : Option TableCopy :=
  if n = 1 then some .ACTIVE else if n = 2 then some .PENDING else none

/-- The code of a pending state: 0 ABSENT, 1 EDITING, 2 READY (10 section 10.9). -/
def Pending.code : Pending → Nat
  | .ABSENT => 0
  | .EDITING _ => 1
  | .READY _ => 2

/-- The tables a TABLE_READ shows: those of the active copy, or of the pending one, which has none while ABSENT (R76). -/
def State.tablesOf (s : State) : TableCopy → SwingTables
  | .ACTIVE => s.store.working.tables
  | .PENDING =>
    match s.swing.pending with
    | .ABSENT => ⟨[], []⟩
    | .EDITING c | .READY c => c.tables

/-- The entries of a table. -/
def SwingTables.content (t : SwingTables) : TableName → TableContent
  | .RADIUS => .radius t.radius
  | .ZONE => .zones t.zones

/-- A TABLE_READ judged (R76). -/
def judgeTableRead (p : List Byte) (s : State) : State :=
  match copyOf (u8 p 0), tableOf (u8 p 1) with
  | some c, some t => enqueue .SERVICE (.tableValue c s.swing.pending.code ((s.tablesOf c).content t)) s
  | _, _ => reply .SERVICE kindTableRead .RANGE 0 s

/-- The arrival of a TABLE_READ (R76). -/
def tableRead (p : List Byte) : State → State :=
  request .SERVICE kindTableRead p 2 (judgeTableRead p)

/-- TABLE_READ (R76). -/
def execTableRead (p : List Byte) (s : State) : Host.Outcome State Fault Refusal :=
  event s (tableRead p)

end Sys2Proof.Machine
end

