-- ==== Sys2Proof/Machine/TrendUnit.lean ====
section
/-! DEFINITION. The trend recorder's timers and its three requests. -/

namespace Sys2Proof.Machine

/-- The interval timer, when it runs for a state (R152). -/
def State.trendTimer (s : State) (st : TrendState) : Timer :=
  if s.trend.state = st then s.trend.timer else none

/-- TREND_SLOW_EXPIRY: a record without a marker, and the timer again (R152). -/
def execTrendSlowExpiry (s : State) : Host.Outcome State Fault Refusal :=
  expiry s (s.trendTimer .ARMED) fun s =>
    (takeRecord none s).withTrend { (takeRecord none s).trend with timer := s.startMs (s.par .TREND_SLOW) }

/-- The ring freezes: TREND_FROZEN is raised with the trigger index (R154). -/
def freeze (s : State) : State :=
  raise .TREND_FROZEN (s.triggerIndex.getD 0 : Nat)
    (s.withTrend { s.trend with state := .FROZEN, timer := none, frozen := true })

/-- The post count after one more record compared with TREND_POST (R154). -/
def afterFast (s : State) : State :=
  if (s.trend.post : Int) < s.par .TREND_POST then
    s.withTrend { s.trend with timer := s.startMs (s.par .TREND_FAST) }
  else freeze s

/-- A fast expiry: a record without a marker, one more in the post count, and the comparison (R154). -/
def fastExpires (s : State) : State :=
  afterFast ((takeRecord none s).withTrend { (takeRecord none s).trend with post := s.trend.post + 1 })

/-- TREND_FAST_EXPIRY (R154). -/
def execTrendFastExpiry (s : State) : Host.Outcome State Fault Refusal :=
  expiry s (s.trendTimer .POST_TRIGGER) fastExpires

/-- The kind byte of a TREND_READ (10 section 10.3). -/
def kindTrendRead : Byte := 0x60

/-- The kind byte of a TREND_TRIGGER (10 section 10.3). -/
def kindTrendTrigger : Byte := 0x61

/-- The kind byte of a TREND_REARM (10 section 10.3). -/
def kindTrendRearm : Byte := 0x62

/-- A TREND_TRIGGER judged (R156). -/
def judgeTrendTrigger (s : State) : State :=
  match s.trend.state with
  | .ARMED => reply .SERVICE kindTrendTrigger .OK 0 (trigger 0 s)
  | .POST_TRIGGER => reply .SERVICE kindTrendTrigger .REFUSED_STATE 1 s
  | .FROZEN => reply .SERVICE kindTrendTrigger .REFUSED_STATE 2 s

/-- The arrival of a TREND_TRIGGER (R156). -/
def trendTrigger (p : List Byte) : State → State :=
  request .SERVICE kindTrendTrigger p 0 judgeTrendTrigger

/-- TREND_TRIGGER (R156). -/
def execTrendTrigger (p : List Byte) (s : State) : Host.Outcome State Fault Refusal :=
  event s (trendTrigger p)

/-- The recorder armed afresh with an empty ring, with the clear of TREND_FROZEN (R157). -/
def rearmTrend (s : State) : State :=
  (if s.trend.frozen then clear .TREND_FROZEN else id)
    (s.withTrend ⟨[], .ARMED, s.startMs (s.par .TREND_SLOW), 0, false⟩)

/-- A TREND_REARM judged (R157). -/
def judgeTrendRearm (s : State) : State :=
  reply .SERVICE kindTrendRearm .OK s.trend.ring.length (rearmTrend s)

/-- The arrival of a TREND_REARM (R157). -/
def trendRearm (p : List Byte) : State → State :=
  request .SERVICE kindTrendRearm p 0 judgeTrendRearm

/-- TREND_REARM (R157). -/
def execTrendRearm (p : List Byte) (s : State) : Host.Outcome State Fault Refusal :=
  event s (trendRearm p)

/-- The page of a TREND_READ (R158). -/
def State.trendPage (s : State) (start count : Nat) : TxFrame :=
  .trendPage s.trend.state s.trend.ring.length s.triggerIndex ((s.trend.ring.drop start).take count)

/-- A TREND_READ judged (R158). -/
def judgeTrendRead (p : List Byte) (s : State) : State :=
  if u8 p 1 = 0 ∨ 6 < u8 p 1 then reply .SERVICE kindTrendRead .RANGE 0 s
  else enqueue .SERVICE (s.trendPage (u8 p 0) (u8 p 1)) s

/-- The arrival of a TREND_READ (R158). -/
def trendRead (p : List Byte) : State → State :=
  request .SERVICE kindTrendRead p 2 (judgeTrendRead p)

/-- TREND_READ (R158). -/
def execTrendRead (p : List Byte) (s : State) : Host.Outcome State Fault Refusal :=
  event s (trendRead p)

end Sys2Proof.Machine
end

