-- ==== Sys2Proof/Machine/Frames.lean ====
section
/-! DEFINITION. The STATUS frame and its timers, and the bytes of every outgoing frame. -/

namespace Sys2Proof.Machine

/-! ### STATUS -/

/-- What a STATUS frame carries as the machine stands (R173). -/
def State.statusContent (s : State) : StatusContent :=
  { bucket := s.geo.record
    angle := s.swingAngle
    referenced := s.swing.referenced
    output := s.drive.output
    brakes := PerMotion.of fun m => (s.brake m).state
    transfer := s.walk.transfer
    phase := s.walkPhase
    camSync := ⟨s.camSync .L, s.camSync .R⟩
    stepMode := s.walk.stepMode
    inStep := s.ports.link.inStep
    serviceHeld := s.heldBy .SERVICE
    armed := s.ports.interlock
    level := s.budget.level
    alarms := s.summary
    trend := s.trend.state }

/-- The status parameter of a master (R173). -/
def statusParam : Master → Param
  | .CAB => .STATUS_CAB
  | .SERVICE => .STATUS_SERVICE

/-- A STATUS frame formed and queued on a master's port (R162, R173). -/
def sendStatus (m : Master) (s : State) : State :=
  s.setQueue m.port (putPeriodic TxFrame.isStatus (.status s.statusContent) (s.port m.port).tx)

/-- The expiry of a status timer (R173). -/
def statusExpires (m : Master) (s : State) : State :=
  sendStatus m (s.withPorts { s.ports with
    statusTimer := s.ports.statusTimer.set m (s.startMs (s.par (statusParam m))) })

/-- STATUS_TIMER_EXPIRY (R173). -/
def execStatusTimerExpiry (m : Master) (s : State) : Host.Outcome State Fault Refusal :=
  expiry s (s.ports.statusTimer.get m) (statusExpires m)

/-! ### Codes of the frames -/

/-- The code of a brake state (10 section 10.9). -/
def BrakeState.code : BrakeState → Nat
  | .SET => 0
  | .PROVING => 1
  | .OPENING => 2
  | .RELEASED => 3
  | .CLOSING => 4
  | .FAULT => 5

/-- The code of a transfer state (10 section 10.9). -/
def TransferState.code : TransferState → Nat
  | .DIG => 0
  | .TO_WALK => 1
  | .WALK => 2
  | .TO_DIG => 3
  | .TRANSFER_FAULT => 4

/-- The code of a walk phase (10 section 10.9). -/
def WalkPhase.code : WalkPhase → Nat
  | .UNKNOWN => 0
  | .SHOES_LOWERING => 1
  | .HOUSE_LIFTING => 2
  | .STEPPING => 3
  | .HOUSE_SETTING => 4
  | .SHOES_RAISING => 5

/-- The code of a cam's sync state (10 section 10.9). -/
def CamSync.code : CamSync → Nat
  | .UNSYNCED => 0
  | .SYNCING => 1
  | .SYNCED => 2

/-- The code of a class (10 section 10.9). -/
def AlarmClass.code : AlarmClass → Nat
  | .INFO => 1
  | .WARN => 2
  | .STOP => 3
  | .TRIP => 4

/-- The code of the highest class, 0 for NONE (10 section 10.9). -/
def highestCode : Option AlarmClass → Nat
  | none => 0
  | some c => c.code

/-- The code of a recorder state (10 section 10.9). -/
def TrendState.code : TrendState → Nat
  | .ARMED => 0
  | .POST_TRIGGER => 1
  | .FROZEN => 2

/-- The code of an entry's state (10 section 10.9). -/
def EntryState.code : EntryState → Nat
  | .ACTIVE_UNACK => 0
  | .ACTIVE_ACK => 1
  | .CLEARED_UNACK => 2
  | .CLEARED_LATCHED => 3

/-- The code of a reply result (10 section 10.3). -/
def ReplyResult.code : ReplyResult → Nat
  | .OK => 0
  | .UNKNOWN_KIND => 1
  | .BAD_LENGTH => 2
  | .NOT_HOLDER => 3
  | .REFUSED_STATE => 4
  | .RANGE => 5
  | .BUSY => 6
  | .READ_ONLY => 7

/-- The code of a copy (10 section 10.9). -/
def TableCopy.code : TableCopy → Nat
  | .ACTIVE => 1
  | .PENDING => 2

/-- The code of a mode request (10 section 10.9). -/
def DigWalk.code : DigWalk → Nat
  | .DIG => 1
  | .WALK => 2

/-- A flag's weight when it is set. -/
def flag (b : Bool) (weight : Nat) : Nat :=
  if b then weight else 0

/-- The swing angle with the reference bit, two bytes (10 section 10.9). -/
def angleBytes (angle : Int) (referenced : Bool) : List Byte :=
  leBytes 2 (angle.toNat % 4096 + flag referenced 32768)

/-- The four brake states in two bytes (10 section 10.9). -/
def brakeBytes (b : PerMotion BrakeState) : List Byte :=
  le8 (b.H.code + 16 * b.D.code) ++ le8 (b.S.code + 16 * b.W.code)

/-- The transfer state and the walk phase in one byte (10 section 10.9). -/
def transferByte (t : TransferState) (p : WalkPhase) : List Byte :=
  le8 (t.code + 16 * p.code)

/-- The three values of the channels, two bytes each (10 section 10.9). -/
def channelBytes (v : PerChannel Int) : List Byte :=
  le16 v.HOIST ++ le16 v.DRAG_WALK ++ le16 v.SWING

/-! ### Payloads -/

/-- The payload of a STATUS frame (10 section 10.9). The bits to which that section gives no meaning are sent as 0, which
is the model's choice (log entry 33). -/
def StatusContent.bytes (c : StatusContent) : List Byte :=
  le8 (geoStatusCode c.bucket.status)
    ++ lengthField (c.bucket.pos.map fun p => p.x) ++ lengthField (c.bucket.pos.map fun p => p.z)
    ++ lengthField c.bucket.lh ++ lengthField c.bucket.ld
    ++ angleBytes c.angle c.referenced ++ channelBytes c.output ++ brakeBytes c.brakes
    ++ transferByte c.transfer c.phase
    ++ le8 (c.camSync.L.code + 4 * c.camSync.R.code + flag (c.stepMode == .CONTINUOUS) 16 + flag c.inStep 32)
    ++ le8 (c.serviceHeld.code + 16 * c.armed.code)
    ++ channelBytes c.level
    ++ le8 (c.alarms.length % 64 + flag c.alarms.overflow 128) ++ le8 c.alarms.unacked ++ [c.alarms.counter]
    ++ le8 (highestCode c.alarms.highest + 16 * c.trend.code)

/-- An entry in an ALARM_PAGE (10 section 10.9). -/
def AlarmEntry.bytes (e : AlarmEntry) : List Byte :=
  le8 e.code.number ++ le8 e.cls.code ++ le8 e.scope.code ++ le8 e.state.code
    ++ leBytes 4 e.first.toNat ++ leBytes 4 e.last.toNat ++ le8 e.count ++ le16 e.detail

/-- A record in a TREND_PAGE (10 section 10.9). The bits to which that section gives no meaning are sent as 0, which is the
model's choice (log entry 33). -/
def TrendRecord.bytes (r : TrendRecord) : List Byte :=
  leBytes 6 r.time.toNat ++ le8 (geoStatusCode r.status)
    ++ lengthField r.lh ++ lengthField r.ld ++ lengthField r.x ++ lengthField r.z
    ++ angleBytes r.angle r.referenced ++ channelBytes r.output ++ channelBytes r.current
    ++ brakeBytes r.brakes ++ transferByte r.transfer r.phase
    ++ le8 (highestCode r.highest + flag r.stale 128) ++ le8 (r.marker.getD 0xFF)

/-- The table, count and entries of a TABLE_VALUE, the pending state between them (10 section 10.9). -/
def TableContent.bytes (pending : Nat) : TableContent → List Byte
  | .radius es => le8 1 ++ le8 pending ++ le8 es.length ++ es.flatMap RadiusEntry.bytes
  | .zones es => le8 2 ++ le8 pending ++ le8 es.length ++ es.flatMap ZoneEntry.bytes

/-- A channel in a REFERENCE frame (10 section 10.9). The flag bits 3 to 7, to which that section gives no meaning, are
sent as 0, which is the model's choice (log entry 33). -/
def RefBlock.bytes (b : RefBlock) : List Byte :=
  le16 b.output ++ le8 (flag b.enable 1 + flag b.prove 2 + flag b.qstop 4)

/-- The payload of an outgoing frame (10 section 10.9). That the OVERFLOW byte of an ALARM_PAGE is 1 when the marker is set
and 0 when it is clear is the model's choice (log entry 32). -/
def TxFrame.payload : TxFrame → List Byte
  | .status c => c.bytes
  | .reply kind result detail => kind :: le8 result.code ++ le16 detail
  | .alarmPage length counter overflow entries =>
    le8 length ++ counter :: le8 (flag overflow 1) ++ le8 entries.length ++ entries.flatMap AlarmEntry.bytes
  | .paramValue id value => leBytes 2 id ++ le32 value
  | .tableValue copy pending content => le8 copy.code ++ content.bytes pending
  | .trendPage state length trigger records =>
    le8 state.code ++ leBytes 2 length ++ leBytes 2 (trigger.getD 0xFFFF) ++ le8 records.length
      ++ records.flatMap TrendRecord.bytes
  | .reference chans mode =>
    chans.HOIST.bytes ++ chans.DRAG_WALK.bytes ++ chans.SWING.bytes ++ le8 mode.code

/-- The kind of an outgoing frame (10 section 10.3). -/
def TxFrame.kind : TxFrame → Byte
  | .status _ => 0x80
  | .reply _ _ _ => 0x81
  | .alarmPage _ _ _ _ => 0x82
  | .paramValue _ _ => 0x83
  | .tableValue _ _ _ => 0x84
  | .trendPage _ _ _ _ => 0x85
  | .reference _ _ => 0x86

/-- The bytes the check of a frame covers: kind, length and payload (R160). -/
def checkedBytes (kind : Byte) (payload : List Byte) : List Byte :=
  kind :: BitVec.ofNat 8 payload.length :: payload

/-- The bytes of a frame: start byte, kind, length, payload, check low byte first (10 section 10.2). -/
def frameBytes (kind : Byte) (payload : List Byte) : List Byte :=
  0xC3#8 :: checkedBytes kind payload ++ leBytes 2 (crc (checkedBytes kind payload)).toNat

/-- The bytes of an outgoing frame as the transmitter sends them (R162, section 10.2). -/
def TxFrame.bytes (f : TxFrame) : List Byte :=
  frameBytes f.kind f.payload

end Sys2Proof.Machine
end

