-- ==== Sys2Proof/Machine/Inputs.lean ====
section
/-! DEFINITION. The discrete inputs: debouncing, and the delivery of each change event to the blocks of its input. -/

namespace Sys2Proof.Machine

/-- The debounce parameter of an input; ESTOP_OK has none (R14, R15). -/
def debounceParam : DI → Option Param
  | .ESTOP_OK => none
  | .HOIST_BRAKE_FB => some .DEBOUNCE_1
  | .DRAG_BRAKE_FB => some .DEBOUNCE_2
  | .SWING_BRAKE_FB => some .DEBOUNCE_3
  | .WALK_BRAKE_FB => some .DEBOUNCE_4
  | .XFER_DIG_FB => some .DEBOUNCE_5
  | .XFER_WALK_FB => some .DEBOUNCE_6
  | .HOIST_MARK => some .DEBOUNCE_7
  | .DRAG_MARK => some .DEBOUNCE_8
  | .OVERHOIST_SW => some .DEBOUNCE_9
  | .BOOM_JACK_SW => some .DEBOUNCE_10
  | .TUB_SEATED => some .DEBOUNCE_11
  | .LOCAL_KEY => some .DEBOUNCE_12
  | .LUBE_OK => some .DEBOUNCE_13
  | .AUX1 => some .DEBOUNCE_14
  | .AUX2 => some .DEBOUNCE_15

/-- The debounce time of an input in ms: 2 for ESTOP_OK (R14, R15). -/
def State.debounceTime (s : State) (d : DI) : Int :=
  match debounceParam d with
  | some p => s.par p
  | none => 2

/-- The debounce timer after a raw change: it runs while raw and debounced level differ (R14). -/
def DiscreteInput.afterRaw (i : DiscreteInput) (level : Bool) (start : Timer) : DiscreteInput :=
  if level = i.raw then i
  else if level = i.level then { i with raw := level, timer := none }
  else { i with raw := level, timer := start }

/-- The raw level of a discrete input changes (R14). -/
def rawInputChange (d : DI) (level : Bool) (s : State) : State :=
  s.setInput d ((s.input d).afterRaw level (s.startMs (s.debounceTime d)))

/-- DISCRETE_INPUT_RAW_CHANGE (R14). -/
def execDiscreteInputRawChange (d : DI) (level : Bool) (s : State) : Host.Outcome State Fault Refusal :=
  event s (rawInputChange d level)

/-- A condition that follows an input: raised at its change to on, cleared at its change to off. -/
def followInput (c : AlarmCode) (detail : Int) (on : Bool) (s : State) : State :=
  if on then raise c detail s else clear c s

/-- The detail of OVERHOIST: the length of the latest record, clamped, or 0 (R48). -/
def State.overhoistDetail (s : State) : Int :=
  match s.geo.record.lh with
  | some l => clamp (-32767) 32767 l
  | none => 0

/-- The change event of ESTOP_OK: going off switches DRIVE_ENABLE off and raises ESTOP, coming on clears the condition
(R15, R99). -/
def estopChange (on : Bool) (s : State) : State :=
  if on then judgeDriveEnable (clear .ESTOP s) else raise .ESTOP 0 (judgeDriveEnable s)

/-- The change event of an input, delivered to the blocks of 01 section 1.6 (R18). -/
def inputChange (d : DI) (on : Bool) (s : State) : State :=
  match d with
  | .ESTOP_OK => estopChange on s
  | .HOIST_BRAKE_FB => feedbackChange .H on s
  | .DRAG_BRAKE_FB => feedbackChange .D on s
  | .SWING_BRAKE_FB => feedbackChange .S on s
  | .WALK_BRAKE_FB => feedbackChange .W on s
  | .XFER_DIG_FB | .XFER_WALK_FB => contactorChange s
  | .HOIST_MARK => if on then ropeMark .HOIST s else s
  | .DRAG_MARK => if on then ropeMark .DRAG s else s
  | .OVERHOIST_SW => followInput .OVERHOIST s.overhoistDetail on s
  | .BOOM_JACK_SW => followInput .BOOM_JACK 0 on s
  | .TUB_SEATED => s
  | .LOCAL_KEY => if on then s else keyOff s
  | .LUBE_OK => lubeChange on s
  | .AUX1 => auxInputChange .AUX1 on s
  | .AUX2 => auxInputChange .AUX2 on s

/-- The debounced level takes the raw level (R14). -/
def acceptInput (d : DI) (s : State) : State :=
  s.setInput d { s.input d with level := (s.input d).raw, timer := none }

/-- The end of a debounce time (R14, R18). -/
def debounceExpires (d : DI) (s : State) : State :=
  inputChange d ((acceptInput d s).isOn d) (acceptInput d s)

/-- DEBOUNCE_TIMER_EXPIRY (R14). -/
def execDebounceTimerExpiry (d : DI) (s : State) : Host.Outcome State Fault Refusal :=
  expiry s (s.input d).timer (debounceExpires d)

end Sys2Proof.Machine
end

