-- ==== Sys2Proof/Machine/ProfileStore.lean ====
section
/-! DEFINITION. The profile store: parameter writes and reads with what each change does at its event, loading and
saving. -/

namespace Sys2Proof.Machine

/-! ### Slots -/

/-- A slot by its number; slot 0 is read-only and holds the factory values (R175). -/
def Store.slot (st : Store) (n : Nat) : Slot :=
  match n with
  | 0 => Slot.saved Profile.factory
  | 1 => st.slot1
  | 2 => st.slot2
  | _ => st.slot3

/-- A slot is valid: slot 0 always, the others when their word agrees with their content (R175). -/
def Store.slotValid (st : Store) (n : Nat) : Bool :=
  match n with
  | 0 => true
  | n + 1 => (st.slot (n + 1)).valid

/-- The store with a slot 1 to 3 replaced (R175). -/
def Store.setSlot (st : Store) (n : Nat) (v : Slot) : Store :=
  match n with
  | 0 => st
  | 1 => { st with slot1 := v }
  | 2 => { st with slot2 := v }
  | _ => { st with slot3 := v }

/-- The save state is WRITING (R178). -/
def SaveState.writing : SaveState → Bool
  | .IDLE => false
  | .WRITING _ _ => true

/-! ### What a change of a parameter does at its event -/

/-- Both cam counts are brought into the range of CAM_CPR (R9). -/
def wrapCams (s : State) : State :=
  (s.setCount .CAM_L ((s.chan .CAM_L).count % s.par .CAM_CPR)).setCount .CAM_R
    ((s.chan .CAM_R).count % s.par .CAM_CPR)

/-- The input of an auxiliary condition is on at a polarity (R17). -/
def State.auxOnAt (s : State) (a : Aux) (polarity : Int) : Bool :=
  activeAt polarity (s.input (auxInput a)).level

/-- The active level of an auxiliary input has changed from a polarity: a change event when the input turns on or off by it
(R17). -/
def polarityChanged (a : Aux) (old : Int) (s : State) : State :=
  if s.auxOnAt a old = s.isOn (auxInput a) then s else auxInputChange a (s.isOn (auxInput a)) s

/-- What the block that owns a parameter does at the event of its change from an old value, the new one being in the
profile (R9, R17, R60, R114, R140, R147). -/
def onChange (p : Param) (old : Int) (s : State) : State :=
  match p with
  | .SWING_CPR => loseReference (wrapSwing s)
  | .CAM_CPR => unsyncCams (wrapCams s)
  | .CAM_MODE | .CAM_INDEX_ANGLE => unsyncCams s
  | .AUX1_CLASS | .AUX1_SCOPE => auxWritten .AUX1 s
  | .AUX2_CLASS | .AUX2_SCOPE => auxWritten .AUX2 s
  | .AUX1_ACTIVE => polarityChanged .AUX1 old s
  | .AUX2_ACTIVE => polarityChanged .AUX2 old s
  | .ENVELOPE_ON => envelopeSwitched s
  | _ => s

/-- What happens at every accepted write of a parameter, changed or not: floors raise their level (R128), masks and
PATTERN_PERIOD have the demands judged (R146, R148). -/
def onWrite (p : Param) (s : State) : State :=
  match p with
  | .CURTAIL_FLOOR_H => floorWritten .HOIST s
  | .CURTAIL_FLOOR_DW => floorWritten .DRAG_WALK s
  | .CURTAIL_FLOOR_S => floorWritten .SWING s
  | .PATTERN_PERIOD | .HORN_MASK_TRIP | .HORN_MASK_STOP | .HORN_MASK_WARN | .BUZZER_MASK_TRIP | .BUZZER_MASK_STOP
  | .BUZZER_MASK_WARN | .RED_MASK_TRIP | .RED_MASK_STOP | .RED_MASK_WARN | .AMBER_MASK_TRIP | .AMBER_MASK_STOP
  | .AMBER_MASK_WARN => annunciate s
  | _ => s

/-! ### PARAM_WRITE -/

/-- The kind byte of a PARAM_WRITE (10 section 10.3). -/
def kindParamWrite : Byte := 0x42

/-- The id of START_SLOT (11 section 11.5). -/
def idStartSlot : Nat := 0x0F01

/-- The read-only parameters of the store group (11 section 11.5). -/
inductive StoreParam
  | PROFILE_DIRTY
  | SAVE_BUSY
  | LOADED_SLOT
  | SLOT_VALID
  deriving DecidableEq, Repr

/-- The read-only parameter of an id (11 section 11.5). -/
def storeParamOf (id : Nat) : Option StoreParam :=
  if id = 0x0F02 then some .PROFILE_DIRTY
  else if id = 0x0F03 then some .SAVE_BUSY
  else if id = 0x0F04 then some .LOADED_SLOT
  else if id = 0x0F05 then some .SLOT_VALID
  else none

/-- The answer of a PARAM_WRITE. -/
def paramReply (r : ReplyResult) (detail : Int) : State → State :=
  reply .SERVICE kindParamWrite r detail

/-- The chord terms of a profile are a consistent pair (R180). -/
def Profile.chordOk (w : Profile) : Bool :=
  mag (w.get .CHORD_COS * w.get .CHORD_COS + w.get .CHORD_SIN * w.get .CHORD_SIN - 2 ^ 30) ≤ 2 ^ 24

/-- The phase boundaries of a profile ascend (R180). -/
def Profile.phasesOk (w : Profile) : Bool :=
  decide (w.get .PHASE_1 < w.get .PHASE_2) && decide (w.get .PHASE_2 < w.get .PHASE_3)
    && decide (w.get .PHASE_3 < w.get .PHASE_4)

/-- The new value keeps the parameters consistent: the chord pair and the phase order are checked at writes of their own
parameters (R180). -/
def Profile.consistentWith (w : Profile) (p : Param) (v : Int) : Bool :=
  match p with
  | .CHORD_COS | .CHORD_SIN => (w.set p v).chordOk
  | .PHASE_1 | .PHASE_2 | .PHASE_3 | .PHASE_4 => (w.set p v).phasesOk
  | _ => true

/-- A gated write finds one of the brakes H, D, S out of SET (R180). -/
def State.gateClosed (s : State) (p : Param) : Bool :=
  p.row.gated && !([Motion.H, .D, .S].all fun m => (s.brake m).state == .SET)

/-- The state with a parameter of the working profile replaced and the dirty flag set (R175, R180). -/
def State.setPar (s : State) (p : Param) (v : Int) : State :=
  s.withStore { s.store with working := s.store.working.set p v, dirty := true }

/-- An accepted write: the value stored, and what its owner does at the event (R180). -/
def writeParam (p : Param) (v : Int) (s : State) : State :=
  onWrite p ((if s.par p = v then id else onChange p (s.par p)) (s.setPar p v))

/-- A write of a parameter of the working profile judged (R180). -/
def judgeWrite (p : Param) (v : Int) (s : State) : State :=
  if !p.allows v then paramReply .RANGE 2 s
  else if !s.store.working.consistentWith p v then paramReply .RANGE 3 s
  else if s.gateClosed p then paramReply .REFUSED_STATE 1 s
  else paramReply .OK 0 (writeParam p v s)

/-- A write of START_SLOT judged: it leaves the dirty flag as it is (R180). -/
def judgeStartSlot (v : Int) (s : State) : State :=
  if v < 0 ∨ 3 < v then paramReply .RANGE 2 s
  else if s.store.save.writing then paramReply .BUSY 0 s
  else paramReply .OK 0 (s.withStore { s.store with startSlot := v.toNat, startCheck := startWord v.toNat })

/-- A PARAM_WRITE of an id judged (R180). -/
def judgeParamWrite (id : Nat) (v : Int) (s : State) : State :=
  if id = idStartSlot then judgeStartSlot v s
  else if (storeParamOf id).isSome then paramReply .READ_ONLY 0 s
  else
    match Param.ofId id with
    | some p => judgeWrite p v s
    | none => paramReply .RANGE 1 s

/-- The arrival of a PARAM_WRITE (R180). -/
def paramWrite (p : List Byte) : State → State :=
  request .SERVICE kindParamWrite p 6 (judgeParamWrite (u16 p 0) (s32 p 2))

/-- PARAM_WRITE (R180). -/
def execParamWrite (p : List Byte) (s : State) : Host.Outcome State Fault Refusal :=
  event s (paramWrite p)

/-- The arrival of a PARAM_WRITE of one parameter (R180). -/
def paramWriteOf (p : Param) (v : BitVec 32) : State → State :=
  paramWrite (paramPayload p.row.id v)

/-- START_SLOT_WRITE (R180). -/
def execStartSlotWrite (v : BitVec 32) (s : State) : Host.Outcome State Fault Refusal :=
  event s (paramWrite (paramPayload idStartSlot v))

/-- CURTAIL_FLOOR_WRITE (R128). -/
def execCurtailFloorWrite (c : Channel) (v : BitVec 32) (s : State) : Host.Outcome State Fault Refusal :=
  event s (paramWriteOf (floorParam c) v)

/-- SWING_CPR_WRITE (R60). -/
def execSwingCprWrite (v : BitVec 32) (s : State) : Host.Outcome State Fault Refusal :=
  event s (paramWriteOf .SWING_CPR v)

/-- The parameter of a CAM_PARAM_WRITE (R114). -/
def camParam : CamParam → Param
  | .CAM_CPR => .CAM_CPR
  | .CAM_MODE => .CAM_MODE
  | .CAM_INDEX_ANGLE => .CAM_INDEX_ANGLE

/-- CAM_PARAM_WRITE (R114). -/
def execCamParamWrite (w : CamParam) (v : BitVec 32) (s : State) : Host.Outcome State Fault Refusal :=
  event s (paramWriteOf (camParam w) v)

/-- The parameter of an AUX_CLASS_SCOPE_WRITE (R140). -/
def auxFieldParam (a : Aux) : AuxField → Param
  | .CLASS => auxClassParam a
  | .SCOPE => auxScopeParam a

/-- AUX_CLASS_SCOPE_WRITE (R140). -/
def execAuxClassScopeWrite (a : Aux) (f : AuxField) (v : BitVec 32) (s : State) : Host.Outcome State Fault Refusal :=
  event s (paramWriteOf (auxFieldParam a f) v)

/-- AUX_ACTIVE_WRITE (R17). -/
def execAuxActiveWrite (a : Aux) (v : BitVec 32) (s : State) : Host.Outcome State Fault Refusal :=
  event s (paramWriteOf (auxActive a) v)

/-- ENVELOPE_ON_WRITE (R147). -/
def execEnvelopeOnWrite (v : BitVec 32) (s : State) : Host.Outcome State Fault Refusal :=
  event s (paramWriteOf .ENVELOPE_ON v)

/-- The mask of an output for a class (08 section 8.6). -/
def maskParam : AnnOutput → AnnClass → Param
  | .HORN, .TRIP => .HORN_MASK_TRIP
  | .HORN, .STOP => .HORN_MASK_STOP
  | .HORN, .WARN => .HORN_MASK_WARN
  | .BUZZER, .TRIP => .BUZZER_MASK_TRIP
  | .BUZZER, .STOP => .BUZZER_MASK_STOP
  | .BUZZER, .WARN => .BUZZER_MASK_WARN
  | .RED, .TRIP => .RED_MASK_TRIP
  | .RED, .STOP => .RED_MASK_STOP
  | .RED, .WARN => .RED_MASK_WARN
  | .AMBER, .TRIP => .AMBER_MASK_TRIP
  | .AMBER, .STOP => .AMBER_MASK_STOP
  | .AMBER, .WARN => .AMBER_MASK_WARN

/-- The parameter of a MASK_WRITE (R148). -/
def maskWriteParam : MaskParam → Param
  | .mask o c => maskParam o c
  | .PATTERN_PERIOD => .PATTERN_PERIOD

/-- MASK_WRITE (R148). -/
def execMaskWrite (w : MaskParam) (v : BitVec 32) (s : State) : Host.Outcome State Fault Refusal :=
  event s (paramWriteOf (maskWriteParam w) v)

/-! ### PARAM_READ -/

/-- The kind byte of a PARAM_READ (10 section 10.3). -/
def kindParamRead : Byte := 0x43

/-- Two to the power n for a valid slot n (R181). -/
def Store.validBit (st : Store) (n : Nat) : Nat :=
  if st.slotValid n then 2 ^ n else 0

/-- The value of a read-only parameter (R181). -/
def Store.readOnly (st : Store) : StoreParam → Int
  | .PROFILE_DIRTY => if st.dirty then 1 else 0
  | .SAVE_BUSY => if st.save.writing then 1 else 0
  | .LOADED_SLOT => st.loaded
  | .SLOT_VALID => (st.validBit 0 + st.validBit 1 + st.validBit 2 + st.validBit 3 : Nat)

/-- The value of an id, if section 11.5 has one (R181). -/
def State.valueOf (s : State) (id : Nat) : Option Int :=
  if id = idStartSlot then some s.store.startSlot
  else
    match storeParamOf id with
    | some q => some (s.store.readOnly q)
    | none => (Param.ofId id).map s.par

/-- A PARAM_READ judged (R181). -/
def judgeParamRead (p : List Byte) (s : State) : State :=
  match s.valueOf (u16 p 0) with
  | some v => enqueue .SERVICE (.paramValue (u16 p 0) v) s
  | none => reply .SERVICE kindParamRead .RANGE 1 s

/-- The arrival of a PARAM_READ (R181). -/
def paramRead (p : List Byte) : State → State :=
  request .SERVICE kindParamRead p 2 (judgeParamRead p)

/-- PARAM_READ (R181). -/
def execParamRead (p : List Byte) (s : State) : Host.Outcome State Fault Refusal :=
  event s (paramRead p)

/-! ### PROFILE_LOAD -/

/-- The kind byte of a PROFILE_LOAD (10 section 10.3). -/
def kindProfileLoad : Byte := 0x40

/-- The working profile replaced by a slot's content (R177), the pending tables dropped (R77). -/
def takeProfile (n : Nat) (s : State) : State :=
  (s.withStore { s.store with
    working := (s.store.slot n).content, loaded := n, dirty := false, fallback := false }).withPendingTables .ABSENT

/-- A parameter's value differs from that of a profile. -/
def State.differs (s : State) (w : Profile) (p : Param) : Bool :=
  s.par p != w.get p

/-- Work done only when a condition holds. -/
def doWhen (c : Bool) (work : State → State) (s : State) : State :=
  if c then work s else s

/-- The class or scope parameter of an AUX code differs from that of a profile (R140). -/
def State.auxDiffers (s : State) (w : Profile) (a : Aux) : Bool :=
  s.differs w (auxClassParam a) || s.differs w (auxScopeParam a)

/-- The AUX changes of a load, class and scope or active level first (R17, R140; log entry 4). Class and scope taken first
judge the condition under the old active level. -/
def auxLoadIn (classFirst : Bool) (w : Profile) (a : Aux) (s : State) : State :=
  if classFirst then
    doWhen (s.differs w (auxActive a)) (polarityChanged a (w.get (auxActive a)))
      (doWhen (s.auxDiffers w a) (auxChanged a (s.auxOnAt a (w.get (auxActive a)))) s)
  else
    doWhen (s.auxDiffers w a) (auxChanged a (s.isOn (auxInput a)))
      (doWhen (s.differs w (auxActive a)) (polarityChanged a (w.get (auxActive a))) s)

/-- The AUX changes of a load: their order is free where class or scope and the active level both change (log entry 4). -/
def auxLoad (w : Profile) (a : Aux) (s : State) : State :=
  if s.differs w (auxActive a) && s.auxDiffers w a then auxLoadIn (s.choose.1 % 2 == 0) w a s.choose.2
  else auxLoadIn true w a s

/-- The counts of a changed range are brought into it (R9), which a load does before any of its raises: the trigger record of
one reads the wrapped counts (log entry 34). -/
def countsAtLoad (w : Profile) (s : State) : State :=
  doWhen (s.differs w .CAM_CPR) wrapCams (doWhen (s.differs w .SWING_CPR) wrapSwing s)

/-- The cams at a load: unsynced by a changed cam parameter (R114). -/
def camsAtLoad (w : Profile) (s : State) : State :=
  doWhen (s.differs w .CAM_CPR || s.differs w .CAM_MODE || s.differs w .CAM_INDEX_ANGLE) unsyncCams s

/-- The parts of a load that may raise or clear a code: those of the store, the swing limiter for its tables and for its
reference, the budget unit, the walk unit, each AUX code of the alarm unit, and the port unit (R177). -/
inductive LoadPart
  | STORE
  | TABLES
  | SWING
  | BUDGET
  | WALK
  | AUX (a : Aux)
  | PORTS
  deriving DecidableEq, Repr

/-- The parts of a load in one order. -/
def loadParts : List LoadPart := [.STORE, .TABLES, .SWING, .BUDGET, .WALK, .AUX .AUX1, .AUX .AUX2, .PORTS]

/-- The reference of the swing limiter at a load: lost by a changed SWING_CPR (R60). -/
def swingAtLoad (w : Profile) (s : State) : State :=
  doWhen (s.differs w .SWING_CPR) loseReference s

/-- The work of a part of a load, the state before the load being given (R177). Whether the reference and the sync are lost
before the trigger record of an AUX entry reads them is free with the order of the parts (log entry 4); the counts are
wrapped before every part (log entry 34). -/
def loadWork (before : State) : LoadPart → State → State
  | .STORE => doWhen before.store.fallback (clear .PROFILE_FALLBACK)
  | .TABLES => clearTables before
  | .SWING => swingAtLoad before.store.working
  | .BUDGET => budgetAtLoad
  | .WALK => camsAtLoad before.store.working
  | .AUX a => auxLoad before.store.working a
  | .PORTS => judgeZeroPass

/-- What stands after every part of a load: the zero-pass-wait condition, where the port unit was taken before the part that
armed an interlock (R166), the masks (R148) and the envelope (R147). -/
def endLoad (w : Profile) (s : State) : State :=
  doWhen (s.differs w .ENVELOPE_ON) envelopeSwitched (annunciate (judgeZeroPass s))

/-- An accepted load with its parts in a given order, the profile replaced and the counts wrapped first (R177; log entry
34). -/
def loadProfileIn (order : List LoadPart) (n : Nat) (s : State) : State :=
  endLoad s.store.working (runEach (loadWork s) order (countsAtLoad s.store.working (takeProfile n s)))

/-- An accepted load: the raises and clears of its owners are taken in any order (R150, R177; log entry 4). -/
def loadProfile (n : Nat) (s : State) : State :=
  loadProfileIn (shuffle loadParts s.choose.1) n s.choose.2

/-- The answer of a PROFILE_LOAD. -/
def loadReply (r : ReplyResult) (detail : Int) : State → State :=
  reply .SERVICE kindProfileLoad r detail

/-- A PROFILE_LOAD judged (R177). -/
def judgeProfileLoad (n : Nat) (s : State) : State :=
  if 3 < n then loadReply .RANGE 0 s
  else if !s.brakesSet then loadReply .REFUSED_STATE 1 s
  else if s.store.save.writing then loadReply .BUSY 0 s
  else if !s.store.slotValid n then loadReply .REFUSED_STATE 2 s
  else loadReply .OK n (loadProfile n s)

/-- The arrival of a PROFILE_LOAD (R177). -/
def profileLoad (p : List Byte) : State → State :=
  request .SERVICE kindProfileLoad p 1 (judgeProfileLoad (u8 p 0))

/-- PROFILE_LOAD (R177). -/
def execProfileLoad (p : List Byte) (s : State) : Host.Outcome State Fault Refusal :=
  event s (profileLoad p)

/-! ### Saving -/

/-- The kind byte of a PROFILE_SAVE (10 section 10.3). -/
def kindProfileSave : Byte := 0x41

/-- A save accepted: the slot is invalid, the dirty flag clear, the snapshot is being written (R178). -/
def startSave (n : Nat) (s : State) : State :=
  s.withStore { s.store.setSlot n (s.store.slot n).marked with
    dirty := false
    save := .WRITING n s.store.working
    writes := s.store.writes + 1
    saveTimer := s.startMs 300 }

/-- The answer of a PROFILE_SAVE. -/
def saveReply (r : ReplyResult) (detail : Int) : State → State :=
  reply .SERVICE kindProfileSave r detail

/-- A PROFILE_SAVE judged (R178). -/
def judgeProfileSave (n : Nat) (s : State) : State :=
  if 3 < n then saveReply .RANGE 0 s
  else if n = 0 then saveReply .READ_ONLY 0 s
  else if s.store.save.writing then saveReply .BUSY 0 s
  else saveReply .OK n (startSave n s)

/-- The arrival of a PROFILE_SAVE (R178). -/
def profileSave (p : List Byte) : State → State :=
  request .SERVICE kindProfileSave p 1 (judgeProfileSave (u8 p 0))

/-- PROFILE_SAVE (R178). -/
def execProfileSave (p : List Byte) (s : State) : Host.Outcome State Fault Refusal :=
  event s (profileSave p)

/-- The slot matches its snapshot: the check word is written, the slot becomes valid, and PROFILE_SAVE_FAIL is cleared (R179). -/
def saveGood (n : Nat) (snapshot : Profile) (s : State) : State :=
  (if s.store.saveFail then clear .PROFILE_SAVE_FAIL else id)
    (s.withStore { s.store.setSlot n (Slot.saved snapshot) with save := .IDLE, saveTimer := none, saveFail := false })

/-- The slot does not match: it stays invalid, and PROFILE_SAVE_FAIL is raised (R179). -/
def saveBad (n : Nat) (s : State) : State :=
  raise .PROFILE_SAVE_FAIL n
    (s.withStore { s.store with save := .IDLE, saveTimer := none, dirty := true, saveFail := true })

/-- The write in progress ends, with the slot matching or not (R179). -/
def saveEnds (matching : Bool) (s : State) : State :=
  match s.store.save with
  | .IDLE => s
  | .WRITING n w => if matching then saveGood n w s else saveBad n s

/-- The completion of a write, named by the number of its save: that of a write that has ended changes nothing (R179; log
entry 22). -/
def saveCompletes (c : Completion) (s : State) : State :=
  if c.write = s.store.writes then saveEnds c.matching s else s

/-- SAVE_COMPLETION (R179). -/
def execSaveCompletion (c : Completion) (s : State) : Host.Outcome State Fault Refusal :=
  event s (saveCompletes c)

/-- SAVE_TIMER_EXPIRY: a completion that does not match (R179). -/
def execSaveTimerExpiry (s : State) : Host.Outcome State Fault Refusal :=
  expiry s s.store.saveTimer (saveEnds false)

end Sys2Proof.Machine
end

