-- ==== Sys2Proof/Machine/Reference.lean ====
section
/-! DEFINITION. The reference period: the walk limit and target, the channel stages, the brake judgement, and the
REFERENCE frame. -/

namespace Sys2Proof.Machine

/-! ### The walk limit and target -/

/-- A HELD step is armed again by an effective W demand of 20 or less (R118). -/
def rearmStep (s : State) : State :=
  match s.walk.step with
  | .HELD _ => if s.stepWorks && decide (mag (s.effectiveDemand .W) ≤ 20) then s.setStep .ARMED else s
  | .ARMED | .IN_CYCLE _ => s

/-- The angular distance to park in a direction of travel (R117). -/
def remaining (d : Sign) (θ : Int) : Int :=
  match d with
  | .plus => (3600 - θ) % 3600
  | .minus => θ

/-- The limit of a step under way or held (R117). -/
def State.parkLimit (s : State) (d : Sign) : Int :=
  max (s.par .CREEP) (min 1000 (1000 * remaining d (s.camAngle .L) / s.par .PARK_SPAN))

/-- The walk limit (R117). -/
def State.walkLimit (s : State) : Int :=
  if s.walk.transfer ≠ .WALK then 0
  else if !s.bothSynced then s.par .CREEP
  else
    match s.walk.stepMode, s.walk.step with
    | .CONTINUOUS, _ | .SINGLE, .ARMED => 1000
    | .SINGLE, .IN_CYCLE d | .SINGLE, .HELD d => s.parkLimit d

/-- The walk target under a limit (R119). -/
def State.walkTarget (s : State) (limit : Int) : Int :=
  match s.walk.step with
  | .HELD _ => 0
  | .ARMED | .IN_CYCLE _ => boundDemand (s.effectiveDemand .W) limit limit

/-- The walk limit and target stored (R117, R119). -/
def setWalkTarget (s : State) : State :=
  s.withWalk { s.walk with limit := s.walkLimit, target := s.walkTarget s.walkLimit }

/-- The work of the walk unit before the channel stages (R117 to R119). -/
def walkWork (s : State) : State :=
  setWalkTarget (rearmStep s)

/-! ### The channel stages -/

/-- The motion a channel carries in a transfer state (R81). -/
def carried (t : TransferState) : Channel → Motion
  | .HOIST => .H
  | .SWING => .S
  | .DRAG_WALK =>
    match t with
    | .WALK => .W
    | .DIG | .TO_WALK | .TO_DIG | .TRANSFER_FAULT => .D

/-- The target of a motion, as its limiter has formed it (R81). -/
def State.targetOf (s : State) : Motion → Int
  | .H => s.env.hoistTarget
  | .D => s.env.dragTarget
  | .S => s.swing.target
  | .W => s.walk.target

/-- The limits of a motion in its positive and negative direction (R81). -/
def State.limitsOf (s : State) : Motion → Int × Int
  | .H => (s.env.hoistUp, s.env.hoistDown)
  | .D => (s.env.dragIn, s.env.dragOut)
  | .S => (s.swing.cw, s.swing.ccw)
  | .W => (s.walk.limit, s.walk.limit)

/-- A limit scaled by a curtail level (R82). -/
def scaled (limit k : Int) : Int :=
  limit * k / 1000

/-- The motions whose inhibits a channel reads (R83). -/
def inhibitMotions (t : TransferState) (c : Channel) : List Motion :=
  match c, t with
  | .DRAG_WALK, .TO_WALK | .DRAG_WALK, .TO_DIG | .DRAG_WALK, .TRANSFER_FAULT => [.D, .W]
  | c, t => [carried t c]

/-- A channel's normal ramp rate (R84). -/
def accelParam : Channel → Param
  | .HOIST => .ACCEL_H
  | .DRAG_WALK => .ACCEL_DW
  | .SWING => .ACCEL_S

/-- What a channel's stages read: target, scaled limits, inhibits, previous output, and the active brake RELEASED. -/
structure ChannelInput where
  target : Int
  pos : Int
  neg : Int
  trip : Bool
  stop : Bool
  prev : Int
  accel : Int
  qstop : Int
  period : Int
  released : Bool
  deriving DecidableEq, Repr

/-- The active brake of a channel is in a state (R81). -/
def State.activeIs (s : State) (c : Channel) (st : BrakeState) : Bool :=
  match activeBrake s.walk.transfer c with
  | some m => (s.brake m).state == st
  | none => false

/-- What the stages of a channel read at a reference period (R81 to R85). -/
def State.channelInput (s : State) (c : Channel) : ChannelInput :=
  { target := s.targetOf (carried s.walk.transfer c)
    pos := scaled (s.limitsOf (carried s.walk.transfer c)).1 (s.budget.level.get c)
    neg := scaled (s.limitsOf (carried s.walk.transfer c)).2 (s.budget.level.get c)
    trip := (inhibitMotions s.walk.transfer c).any s.tripInhibit
    stop := (inhibitMotions s.walk.transfer c).any s.stopInhibit
    prev := s.drive.output.get c
    accel := s.par (accelParam c)
    qstop := s.par .QSTOP_RATE
    period := s.par .REF_PERIOD
    released := s.activeIs c .RELEASED }

/-- The bounded target after the curtail bound and the inhibits (R82, R83). -/
def ChannelInput.bounded (i : ChannelInput) : Int :=
  if i.trip || i.stop then 0 else boundDemand i.target i.pos i.neg

/-- The previous output's magnitude exceeds the scaled limit of its direction (R84). -/
def ChannelInput.excess (i : ChannelInput) : Bool :=
  (decide (0 < i.prev) && decide (i.pos < i.prev)) || (decide (i.prev < 0) && decide (i.neg < -i.prev))

/-- The ramp rate (R84). -/
def ChannelInput.rate (i : ChannelInput) : Int :=
  if i.stop || i.excess then i.qstop else i.accel

/-- The step of the ramp (R84). -/
def ChannelInput.step (i : ChannelInput) : Int :=
  max 1 (i.rate * i.period / 1000)

/-- A value moved toward a target by at most one step (R84). -/
def moveToward (prev target step : Int) : Int :=
  if mag (target - prev) ≤ step then target else if prev < target then prev + step else prev - step

/-- The output after the ramp; a TRIP inhibit cuts it to 0 (R83, R84). -/
def ChannelInput.ramped (i : ChannelInput) : Int :=
  if i.trip then 0 else moveToward i.prev i.bounded i.step

/-- The output: bounded again by the scaled limit of its direction, and 0 unless the active brake is RELEASED (R85). -/
def ChannelInput.output (i : ChannelInput) : Int :=
  if i.released then boundDemand i.ramped i.pos i.neg else 0

/-- The QSTOP flag (R86; log entry 15). -/
def ChannelInput.quickStop (i : ChannelInput) : Bool :=
  i.trip || i.stop || i.excess

/-- The bounded target a sequencer judges: its channel's when the channel carries its motion in a state that makes it the
active brake, else 0 (R81, R87). -/
def State.boundedFor (s : State) (m : Motion) : Int :=
  if activeBrake s.walk.transfer (channelOf m) = some m then (s.channelInput (channelOf m)).bounded else 0

/-- The outputs and bounded targets of a period stored (R85, R87). -/
def channelStages (s : State) : State :=
  s.withDrive { s.drive with
    output := PerChannel.of fun c => (s.channelInput c).output
    bounded := PerMotion.of s.boundedFor }

/-- The QSTOP flags of a period, before its outputs are stored (R86). -/
def State.quickStops (s : State) : PerChannel Bool :=
  PerChannel.of fun c => (s.channelInput c).quickStop

/-! ### After the channel stages -/

/-- The sense of a nonzero output. -/
def signOf (v : Int) : Sign :=
  if v < 0 then .minus else .plus

/-- In WALK the DRAG_WALK output becomes the walk output (R120), and when nonzero it sets the pulse direction (R7). -/
def storeWalkOutput (s : State) : State :=
  if s.walk.transfer = .WALK then
    (s.withWalk { s.walk with walkOutput := s.drive.output.DRAG_WALK }).withPulseDir
      (if s.drive.output.DRAG_WALK = 0 then s.pulseDir else signOf s.drive.output.DRAG_WALK)
  else s

/-- What a REFERENCE frame carries for a channel (R86). -/
def State.refBlock (s : State) (quick : PerChannel Bool) (c : Channel) : RefBlock :=
  ⟨s.drive.output.get c, s.activeIs c .RELEASED, s.activeIs c .PROVING, quick.get c⟩

/-- The REFERENCE frame formed and queued on the DRIVE port (R86, R172). -/
def sendReference (quick : PerChannel Bool) (s : State) : State :=
  s.setQueue .DRIVE (putPeriodic TxFrame.isReference
    (.reference (PerChannel.of (s.refBlock quick)) s.walk.modeReq) (s.port .DRIVE).tx)

/-- What follows the channel stages: the brake judgement (R88, R89, R91), the walk unit's readings of its output (R7, R120,
R121), the frame (R172). -/
def afterStages (quick : PerChannel Bool) (s : State) : State :=
  sendReference quick (judgeSteering (lubePeriod (storeWalkOutput (runEach judgeBrake motions s))))

/-- The channel stages and what follows them (R82 to R86). -/
def channelWork (s : State) : State :=
  afterStages s.quickStops (channelStages s)

/-- The work of a reference period, the raises and clears of the limiters aside (R81, R123). -/
def periodWork (s : State) : State :=
  channelWork (walkWork (swingWork (hoistDragWork
    (s.withDrive { s.drive with refTimer := s.startMs (s.par .REF_PERIOD) }))))

/-- The raises and clears of a reference period: those of the limit conditions (R51 to R53) and of the in-zone condition
(R68), from the state before it, and the clear of TABLES_PENDING when brake S has entered SET in it (R74, R88). -/
def State.periodEvents (s : State) : List AlarmEvent :=
  s.limitEvents ++ s.zoneEvents ++ (periodWork s).tablesEvents s

/-- A reference period (R81), its raises and clears taken in any order (R150; log entry 4). -/
def referencePeriod (s : State) : State :=
  takeInAnyOrder s.periodEvents (periodWork s)

/-- REFERENCE_PERIOD (R81). -/
def execReferencePeriod (s : State) : Host.Outcome State Fault Refusal :=
  expiry s s.drive.refTimer referencePeriod

end Sys2Proof.Machine
end

