-- ==== Sys2Proof/Machine/Reset.lean ====
section
/-! DEFINITION. The end of reset: the start-up load, the reset values of every block, and the conditions present at
reset. -/

namespace Sys2Proof.Machine

/-- The detail of PROFILE_FALLBACK at the start-up load, if it falls back (R176). -/
def Store.fallbackDetail (st : Store) : Option Nat :=
  if !st.startOk then some 4
  else if st.slotValid st.startSlot then none
  else some st.startSlot

/-- The slot the start-up load takes (R176). -/
def Store.startUpSlot (st : Store) : Nat :=
  if st.fallbackDetail.isSome then 0 else st.startSlot

/-- The store after the start-up load; a start slot whose check word fails is rewritten as 0 (R175, R176, R179). -/
def Store.startUp (st : Store) : Store :=
  { st with
    startSlot := if st.startOk then st.startSlot else 0
    startCheck := if st.startOk then st.startCheck else startWord 0
    working := (st.slot st.startUpSlot).content
    loaded := st.startUpSlot
    dirty := false
    save := .IDLE
    saveTimer := none
    saveFail := false
    fallback := st.fallbackDetail.isSome }

/-- The contactor reading of the raw levels, which the debounced levels take at reset, is dig (R16, R100, R101). -/
def State.rawDig (s : State) : Bool :=
  (s.input .XFER_DIG_FB).raw && !(s.input .XFER_WALK_FB).raw

/-- Every block at its reset values, before the conditions present at reset are raised (R1, R16, R19, R20, R36, R39, R56,
R78, R81, R87, R100, R122, R131, R152, R174, R175). The raw levels, the straps, the slots, the free-choice counter and the
queue stay. -/
def blocksAtReset (s : State) : State :=
  { time := 0
    lines := s.lines.map fun i => CountInput.atReset i.raw
    chans := PerCount.all CountChannel.atReset
    pulseDir := .plus
    di := s.di.map fun i => DiscreteInput.atReset i.raw
    out := Outputs.atReset (s.input .ESTOP_OK).raw
    horn := HornSwitch.atReset
    geo := Geometry.atReset s.store.startUp.working
    env := Envelope.atReset
    swing := SwingUnit.atReset
    fb := Feedback.atReset
    drive := Drive.atReset s.store.startUp.working
    brakes := PerMotion.of fun m => Brake.atReset (s.input (feedbackInput m)).raw
    walk := Walk.atReset s.rawDig
    budget := Budget.atReset
    alarms := Alarms.atReset
    trend := Trend.atReset s.store.startUp.working
    ports := Ports.atReset s.ports.line s.store.startUp.working
    store := s.store.startUp
    freeCount := s.freeCount
    pending := s.pending }

/-- A condition raised at reset when it is present; each such raise is one event (R136). -/
def raiseAtReset (present : Bool) (c : AlarmCode) (detail : Int) (s : State) : State :=
  if present then settle s (raise c detail s) else s

/-- BRAKE_FAULT raised at reset for a brake that the reset has put in FAULT (R87). -/
def raiseBrakeAtReset (m : Motion) (s : State) : State :=
  raiseAtReset (s.feedbackOn m) (brakeFaultCode m) 1 s

/-- The TRIP codes of the hoist and drag limiter, the alarm unit and the walk unit present at reset (R48, R49, R100). -/
def raiseTripsAtReset (s : State) : State :=
  raiseAtReset (s.walk.transfer == .TRANSFER_FAULT) .TRANSFER_POSITION (readingDetail s.contactor)
    (raiseAtReset (s.isOn .BOOM_JACK_SW) .BOOM_JACK 0
      (raiseAtReset (s.isOn .OVERHOIST_SW) .OVERHOIST 0 s))

/-- The conditions present at reset raised in ascending order of code (R131). -/
def raiseAllAtReset (fallback : Option Nat) (s : State) : State :=
  raiseAtReset fallback.isSome .PROFILE_FALLBACK (fallback.getD 0 : Nat)
    (raiseAtReset true .SWING_UNREF 0
      (raiseAtReset true .ROPE_UNREF 0
        (raiseAtReset (s.isOn .AUX2) .AUX_2 0
          (raiseAtReset (s.isOn .AUX1) .AUX_1 0
            (raiseTripsAtReset
              (runEach raiseBrakeAtReset motions
                (raiseAtReset (!s.isOn .ESTOP_OK) .ESTOP 0 s)))))))

/-- The end of reset (R131, R176). -/
def resetWork (s : State) : State :=
  raiseAllAtReset s.store.fallbackDetail (blocksAtReset s)

/-- RESET (R131). -/
def execReset (s : State) : Host.Outcome State Fault Refusal :=
  .next (resetWork s)

end Sys2Proof.Machine
end

