-- ==== Sys2Proof/WellFormed.lean ====
section
/-! DEFINITION. Which commands the outside world can send: a payload has at most 250 bytes (R159), and the kind of an
UNKNOWN_KIND frame is one that its port does not accept (R161). -/

namespace Sys2Proof

/-- The kinds accepted at the CAB port (10_serial_ports_and_authority.md section 10.3). -/
def cabKinds : List Byte :=
  [0x10, 0x11, 0x20, 0x21, 0x22, 0x23]

/-- The kinds accepted at the SERVICE port (section 10.3). -/
def serviceKinds : List Byte :=
  [0x10, 0x11, 0x20, 0x21, 0x22, 0x23, 0x30, 0x31, 0x40, 0x41, 0x42, 0x43,
    0x50, 0x51, 0x52, 0x53, 0x58, 0x60, 0x61, 0x62]

/-- Whether a kind is accepted at a master's port (R161). -/
def kindAccepted (m : Master) (kind : Byte) : Bool :=
  match m with
  | .CAB => cabKinds.contains kind
  | .SERVICE => serviceKinds.contains kind

/-- The largest payload (section 10.2). -/
def maxPayload : Nat := 250

/-- The payload of a frame command. -/
def Instr.payload : Instr → List Byte
  | .modeRequest _ p | .driveStatus p | .demand _ p | .claim p | .release p | .unknownKind _ _ p
  | .alarmAck _ p | .alarmSilence _ p | .alarmReset _ p | .alarmRead _ p
  | .trendTrigger p | .trendRearm p | .trendRead p | .ropeSet p
  | .tableWrite p | .tableApply p | .tableDiscard p | .tableRead p
  | .profileLoad p | .profileSave p | .paramWrite p | .paramRead p => p
  | .reset | .countInputRawChange _ _ | .filterTimerExpiry _ | .standstillTimerExpiry _
  | .discreteInputRawChange _ _ | .debounceTimerExpiry _ | .geometrySample | .geometryHoldExpiry
  | .referencePeriod | .proofTimerExpiry _ | .openTimeExpiry _ | .setDelayExpiry _ | .closeTimeExpiry _
  | .transferTimerExpiry | .lubeTimerExpiry | .missTimerExpiry | .demandHoldExpiry _ | .serviceTimerExpiry
  | .statusTimerExpiry _ | .frameTransmitted _ | .patternTimerExpiry | .envelopeTimerExpiry
  | .trendSlowExpiry | .trendFastExpiry | .saveCompletion _ | .saveTimerExpiry | .startSlotWrite _
  | .curtailFloorWrite _ _ | .swingCprWrite _ | .camParamWrite _ _ | .auxClassScopeWrite _ _ _
  | .auxActiveWrite _ _ | .envelopeOnWrite _ | .maskWrite _ _ | .characterReceived _ _ _
  | .interByteGap _ | .hornSwitchingPeriod => []

/-- The payload fits a frame (R159). -/
def Instr.payloadFits (i : Instr) : Bool :=
  i.payload.length ≤ maxPayload

/-- The kind of an UNKNOWN_KIND frame is not accepted at its port (R161). -/
def Instr.kindFits : Instr → Bool
  | .unknownKind m k _ => !kindAccepted m k
  | _ => true

/-- A command that can come about. -/
def Instr.wf (i : Instr) : Bool :=
  i.payloadFits && i.kindFits

end Sys2Proof
end

