-- ==== Sys2Proof/Machine/Serial.lean ====
section
/-! DEFINITION. The receivers: the bytes of a frame, its check, and the dispatch of a valid frame. -/

namespace Sys2Proof.Machine

/-! ### Dispatch -/

/-- A valid frame of a kind that both masters may send, if it is one (10 section 10.3). -/
def commonFrame (m : Master) (kind : Byte) (p : List Byte) : Option (State → State) :=
  if kind = 0x10 then some (demand m p)
  else if kind = kindModeRequest then some (modeRequest m p)
  else if kind = kindAlarmAck then some (alarmAck m p)
  else if kind = kindAlarmSilence then some (alarmSilence m p)
  else if kind = kindAlarmReset then some (alarmReset m p)
  else if kind = kindAlarmRead then some (alarmRead m p)
  else none

/-- A valid frame of a kind of the authority table, the profile store or the parameters, if it is one (10 section
10.3). -/
def settingsFrame (kind : Byte) (p : List Byte) : Option (State → State) :=
  if kind = kindClaim then some (claim p)
  else if kind = kindRelease then some (release p)
  else if kind = kindProfileLoad then some (profileLoad p)
  else if kind = kindProfileSave then some (profileSave p)
  else if kind = kindParamWrite then some (paramWrite p)
  else if kind = kindParamRead then some (paramRead p)
  else none

/-- A valid frame of a kind of the tables, the ropes or the recorder, if it is one (10 section 10.3). -/
def tablesFrame (kind : Byte) (p : List Byte) : Option (State → State) :=
  if kind = kindTableWrite then some (tableWrite p)
  else if kind = kindTableApply then some (tableApply p)
  else if kind = kindTableDiscard then some (tableDiscard p)
  else if kind = kindTableRead then some (tableRead p)
  else if kind = kindRopeSet then some (ropeSet p)
  else if kind = kindTrendRead then some (trendRead p)
  else if kind = kindTrendTrigger then some (trendTrigger p)
  else if kind = kindTrendRearm then some (trendRearm p)
  else none

/-- The arrival of a valid frame at a master's port (R161). -/
def masterFrame (m : Master) (kind : Byte) (p : List Byte) : State → State :=
  match m with
  | .CAB => (commonFrame .CAB kind p).getD (unknownKind .CAB kind)
  | .SERVICE =>
    (commonFrame .SERVICE kind p).getD
      ((settingsFrame kind p).getD ((tablesFrame kind p).getD (unknownKind .SERVICE kind)))

/-- The kind byte of a DRIVE_STATUS (10 section 10.3). -/
def kindDriveStatus : Byte := 0x70

/-- The arrival of a valid frame at the DRIVE port: all but DRIVE_STATUS is dropped (R161). -/
def driveFrame (kind : Byte) (p : List Byte) (s : State) : State :=
  if kind = kindDriveStatus then driveStatus p s else s

/-- The arrival of a valid frame (R160, R161). -/
def frameArrives (port : Port) (kind : Byte) (p : List Byte) : State → State :=
  match port with
  | .CAB => masterFrame .CAB kind p
  | .SERVICE => masterFrame .SERVICE kind p
  | .DRIVE => driveFrame kind p

/-! ### Bytes -/

/-- The start byte of a frame (10 section 10.2). -/
def startByte : Byte := 0xC3

/-- The receiver after the length byte: above 250 the frame is discarded, at 0 the check follows (R159). -/
def afterLength (kind n : Byte) : Receiver :=
  if maxPayload < n.toNat then .HUNT else if n = 0 then .CHECK_LOW kind [] else .PAYLOAD kind n.toNat []

/-- The receiver after a payload byte (R159). -/
def afterPayload (kind : Byte) (n : Nat) (got : List Byte) (b : Byte) : Receiver :=
  if n ≤ (got ++ [b]).length then .CHECK_LOW kind (got ++ [b]) else .PAYLOAD kind n (got ++ [b])

/-- The check of a frame agrees with the one received, low byte first (R160). -/
def checkAgrees (kind : Byte) (p : List Byte) (low high : Byte) : Bool :=
  crc (checkedBytes kind p) == high ++ low

/-- A byte with a good stop bit (R159, R160). -/
def takeByte (port : Port) (b : Byte) (s : State) : State :=
  match (s.port port).rx with
  | .HUNT => if b = startByte then s.setReceiver port .KIND else s
  | .KIND => s.setReceiver port (.LENGTH b)
  | .LENGTH kind => s.setReceiver port (afterLength kind b)
  | .PAYLOAD kind n got => s.setReceiver port (afterPayload kind n got b)
  | .CHECK_LOW kind p => s.setReceiver port (.CHECK_HIGH kind p b)
  | .CHECK_HIGH kind p low =>
    (if checkAgrees kind p low b then frameArrives port kind p else id) (s.setReceiver port .HUNT)

/-- A character: one with a bad stop bit is dropped, with the frame in progress (R159). -/
def character (port : Port) (b : Byte) (stopOk : Bool) (s : State) : State :=
  if stopOk then takeByte port b s else s.setReceiver port .HUNT

/-- CHARACTER_RECEIVED (R159). -/
def execCharacterReceived (port : Port) (b : Byte) (stopOk : Bool) (s : State) : Host.Outcome State Fault Refusal :=
  event s (character port b stopOk)

/-- INTER_BYTE_GAP: more than 2 ms since the last byte discards the frame in progress (R159). -/
def execInterByteGap (port : Port) (s : State) : Host.Outcome State Fault Refusal :=
  event s fun s => s.setReceiver port .HUNT

end Sys2Proof.Machine
end

