-- ==== Sys2Proof/Machine/Dispatch.lean ====
section
/-! DEFINITION. One arm for each command: the call of its meaning. -/

namespace Sys2Proof.Machine

/-- The effect of a command on everything but the queue. -/
def exec (i : Instr) (s : State) : Host.Outcome State Fault Refusal :=
  match i with
  | .reset => Sys2Proof.Machine.execReset s
  | .countInputRawChange line level => Sys2Proof.Machine.execCountInputRawChange line level s
  | .filterTimerExpiry line => Sys2Proof.Machine.execFilterTimerExpiry line s
  | .standstillTimerExpiry ch => Sys2Proof.Machine.execStandstillTimerExpiry ch s
  | .discreteInputRawChange input level => Sys2Proof.Machine.execDiscreteInputRawChange input level s
  | .debounceTimerExpiry input => Sys2Proof.Machine.execDebounceTimerExpiry input s
  | .geometrySample => Sys2Proof.Machine.execGeometrySample s
  | .geometryHoldExpiry => Sys2Proof.Machine.execGeometryHoldExpiry s
  | .referencePeriod => Sys2Proof.Machine.execReferencePeriod s
  | .proofTimerExpiry m => Sys2Proof.Machine.execProofTimerExpiry m s
  | .openTimeExpiry m => Sys2Proof.Machine.execOpenTimeExpiry m s
  | .setDelayExpiry m => Sys2Proof.Machine.execSetDelayExpiry m s
  | .closeTimeExpiry m => Sys2Proof.Machine.execCloseTimeExpiry m s
  | .modeRequest m payload => Sys2Proof.Machine.execModeRequest m payload s
  | .transferTimerExpiry => Sys2Proof.Machine.execTransferTimerExpiry s
  | .lubeTimerExpiry => Sys2Proof.Machine.execLubeTimerExpiry s
  | .driveStatus payload => Sys2Proof.Machine.execDriveStatus payload s
  | .missTimerExpiry => Sys2Proof.Machine.execMissTimerExpiry s
  | .demand m payload => Sys2Proof.Machine.execDemand m payload s
  | .demandHoldExpiry m => Sys2Proof.Machine.execDemandHoldExpiry m s
  | .claim payload => Sys2Proof.Machine.execClaim payload s
  | .release payload => Sys2Proof.Machine.execRelease payload s
  | .serviceTimerExpiry => Sys2Proof.Machine.execServiceTimerExpiry s
  | .statusTimerExpiry m => Sys2Proof.Machine.execStatusTimerExpiry m s
  | .unknownKind m kind payload => Sys2Proof.Machine.execUnknownKind m kind payload s
  | .frameTransmitted port => Sys2Proof.Machine.execFrameTransmitted port s
  | .alarmAck m payload => Sys2Proof.Machine.execAlarmAck m payload s
  | .alarmSilence m payload => Sys2Proof.Machine.execAlarmSilence m payload s
  | .alarmReset m payload => Sys2Proof.Machine.execAlarmReset m payload s
  | .alarmRead m payload => Sys2Proof.Machine.execAlarmRead m payload s
  | .patternTimerExpiry => Sys2Proof.Machine.execPatternTimerExpiry s
  | .envelopeTimerExpiry => Sys2Proof.Machine.execEnvelopeTimerExpiry s
  | .trendSlowExpiry => Sys2Proof.Machine.execTrendSlowExpiry s
  | .trendFastExpiry => Sys2Proof.Machine.execTrendFastExpiry s
  | .trendTrigger payload => Sys2Proof.Machine.execTrendTrigger payload s
  | .trendRearm payload => Sys2Proof.Machine.execTrendRearm payload s
  | .trendRead payload => Sys2Proof.Machine.execTrendRead payload s
  | .ropeSet payload => Sys2Proof.Machine.execRopeSet payload s
  | .tableWrite payload => Sys2Proof.Machine.execTableWrite payload s
  | .tableApply payload => Sys2Proof.Machine.execTableApply payload s
  | .tableDiscard payload => Sys2Proof.Machine.execTableDiscard payload s
  | .tableRead payload => Sys2Proof.Machine.execTableRead payload s
  | .profileLoad payload => Sys2Proof.Machine.execProfileLoad payload s
  | .profileSave payload => Sys2Proof.Machine.execProfileSave payload s
  | .saveCompletion completion => Sys2Proof.Machine.execSaveCompletion completion s
  | .saveTimerExpiry => Sys2Proof.Machine.execSaveTimerExpiry s
  | .paramWrite payload => Sys2Proof.Machine.execParamWrite payload s
  | .startSlotWrite value => Sys2Proof.Machine.execStartSlotWrite value s
  | .curtailFloorWrite ch value => Sys2Proof.Machine.execCurtailFloorWrite ch value s
  | .swingCprWrite value => Sys2Proof.Machine.execSwingCprWrite value s
  | .camParamWrite which value => Sys2Proof.Machine.execCamParamWrite which value s
  | .auxClassScopeWrite aux field value => Sys2Proof.Machine.execAuxClassScopeWrite aux field value s
  | .auxActiveWrite aux value => Sys2Proof.Machine.execAuxActiveWrite aux value s
  | .envelopeOnWrite value => Sys2Proof.Machine.execEnvelopeOnWrite value s
  | .maskWrite which value => Sys2Proof.Machine.execMaskWrite which value s
  | .paramRead payload => Sys2Proof.Machine.execParamRead payload s
  | .characterReceived port byte stopOk => Sys2Proof.Machine.execCharacterReceived port byte stopOk s
  | .interByteGap port => Sys2Proof.Machine.execInterByteGap port s
  | .hornSwitchingPeriod => Sys2Proof.Machine.execHornSwitchingPeriod s

end Sys2Proof.Machine
end

