-- ==== Sys2Proof/Machine/Step.lean ====
section
/-! DEFINITION. One step: the command at the front of the queue, or the passing of time. -/

namespace Sys2Proof.Machine

/-- With no command waiting, the expiry of a timer that is due, or half a microsecond passes (log entry 2). -/
def idle (s : State) : Host.Outcome State Fault Refusal :=
  match s.nextDue with
  | some (i, s') => exec i s'
  | none => .next s.tick

/-- One step: the command at the front of the queue is taken with the queue's rest. -/
def step (s : State) : Host.Outcome State Fault Refusal :=
  match s.pending with
  | [] => idle s
  | c :: rest => exec c (s.withPending rest)

/-- The state with the command that a word spells put at the front of the queue; unchanged where the word spells none. -/
def State.withFetchWord (s : State) (nbits w : Nat) : State :=
  match decodeTableWord nbits w with
  | some c => s.withPending (c :: s.pending)
  | none => s

end Sys2Proof.Machine
end

