-- ==== Sys2Proof/Safety.lean ====
section
/-! DEFINITION. What a statement says of a command and of a state: the outcome of a command, the standing of the alarm
list, and the properties that every step keeps. -/

namespace Sys2Proof.Safety

open Sys2Proof.Machine

/-! ### Outcomes -/

/-- The command answers a next state, and P holds of it. -/
def Answers (i : Instr) (s : State) (P : State → Prop) : Prop :=
  ∃ t, exec i s = .next t ∧ P t

/-- The time at which a timer's expiry is taken: its end, or now when that has passed (log entry 3). -/
def expiryTime (s : State) (d : Nat) : Nat :=
  max s.time d

/-- The time a timer ends when it starts at a time and runs for ms milliseconds. -/
def timerEnd (now : Nat) (ms : Int) : Timer :=
  some (now + 2000 * ms.toNat)

/-- The timer whose expiry a command is, if it runs: a brake timer for the state it runs for, the interval timer for that of
the recorder; none for a command that is no expiry. -/
def timerOf (s : State) : Instr → Timer
  | .filterTimerExpiry l => (s.line l).timer
  | .standstillTimerExpiry c => (s.chan c).timer
  | .debounceTimerExpiry d => (s.input d).timer
  | .geometrySample => s.geo.sampleTimer
  | .geometryHoldExpiry => s.geo.holdTimer
  | .referencePeriod => s.drive.refTimer
  | .proofTimerExpiry m => if (s.brake m).state = .PROVING then (s.brake m).timer else none
  | .openTimeExpiry m => if (s.brake m).state = .OPENING then (s.brake m).timer else none
  | .setDelayExpiry m => if (s.brake m).state = .RELEASED then (s.brake m).timer else none
  | .closeTimeExpiry m => if (s.brake m).state = .CLOSING then (s.brake m).timer else none
  | .transferTimerExpiry => s.walk.timer
  | .lubeTimerExpiry => s.walk.lubeTimer
  | .missTimerExpiry => s.ports.link.timer
  | .demandHoldExpiry m => (s.ports.demand.get m).timer
  | .serviceTimerExpiry => s.ports.serviceTimer
  | .statusTimerExpiry m => s.ports.statusTimer.get m
  | .patternTimerExpiry => s.alarms.patternTimer
  | .envelopeTimerExpiry => s.alarms.envTimer
  | .trendSlowExpiry => if s.trend.state = .ARMED then s.trend.timer else none
  | .trendFastExpiry => if s.trend.state = .POST_TRIGGER then s.trend.timer else none
  | .saveTimerExpiry => s.store.saveTimer
  | .hornSwitchingPeriod => s.horn.timer
  | _ => none

/-! ### Frames: the parts of the state a command leaves as they are -/

/-- The counting lines, the channel records and the pulse direction are unchanged. -/
def KeepsCounting (s t : State) : Prop :=
  t.lines = s.lines ∧ t.chans = s.chans ∧ t.pulseDir = s.pulseDir

/-- The discrete inputs are unchanged. -/
def KeepsInputs (s t : State) : Prop :=
  t.di = s.di

/-- Ropes, bucket record and both limit records but the pending tables are unchanged. -/
def KeepsPositions (s t : State) : Prop :=
  t.geo = s.geo ∧ t.env = s.env ∧ t.swing = s.swing

/-- Outputs, bounded targets, drive feedback and curtail levels are unchanged. -/
def KeepsDrive (s t : State) : Prop :=
  t.drive = s.drive ∧ t.fb = s.fb ∧ t.budget = s.budget

/-- The sequencers, their coil lines and the walk unit with its coil line are unchanged. -/
def KeepsBrakesAndWalk (s t : State) : Prop :=
  t.brakes = s.brakes ∧ t.out.coil = s.out.coil ∧ t.walk = s.walk ∧ t.out.xfer = s.out.xfer

/-- The alarm unit and what it drives are unchanged. -/
def KeepsAlarms (s t : State) : Prop :=
  t.alarms = s.alarms ∧ t.out = s.out ∧ t.horn = s.horn

/-- Trend recorder and profile store are unchanged. -/
def KeepsRecords (s t : State) : Prop :=
  t.trend = s.trend ∧ t.store = s.store

/-- Demands, authority, interlocks and the drive link are unchanged. -/
def KeepsAuthority (s t : State) : Prop :=
  t.ports.authority = s.ports.authority ∧ t.ports.interlock = s.ports.interlock ∧ t.ports.demand = s.ports.demand
    ∧ t.ports.link = s.ports.link

/-- One more frame has joined a port's transmit queue. -/
def Sends (p : Port) (f : TxFrame) (s t : State) : Prop :=
  (t.port p).tx = (s.port p).tx ++ [f]

/-! ### The alarm list -/

/-- An entry has the class of its code, which for an AUX code is the profile's (R130, R139, R140), and a WARN or INFO entry
has the empty scope (R130). -/
def EntryFits (s : State) (e : AlarmEntry) : Prop :=
  e.cls = s.codeClass e.code ∧ (e.cls.latches = false → e.scope = MotionSet.none)

/-- The alarm list holds at most 32 entries, no two with the same code, each fitting its code (R130, R136). -/
def ListSound (s : State) : Prop :=
  s.alarms.list.length ≤ 32 ∧ (s.alarms.list.map fun e => e.code).Nodup ∧ ∀ e ∈ s.alarms.list, EntryFits s e

/-- DRIVE_ENABLE is on while ESTOP_OK is on and the list holds no ESTOP entry, and off otherwise (R99). -/
def DriveEnableSound (s : State) : Prop :=
  s.out.driveEnable = (s.isOn .ESTOP_OK && !s.listed .ESTOP)

/-- An entry of a code stands in ACTIVE_UNACK with a detail. -/
def Raised (c : AlarmCode) (detail : Int) (t : State) : Prop :=
  ∃ e ∈ t.alarms.list, e.code = c ∧ e.state = .ACTIVE_UNACK ∧ e.detail = detail

/-- Every entry of a code that is listed is cleared. -/
def Cleared (c : AlarmCode) (t : State) : Prop :=
  ∀ e ∈ t.alarms.list, e.code = c → e.state = .CLEARED_UNACK ∨ e.state = .CLEARED_LATCHED

/-- No event has touched the entries of a code: those listed stood as they are before. -/
def Untouched (c : AlarmCode) (s t : State) : Prop :=
  ∀ e ∈ t.alarms.list, e.code = c → e ∈ s.alarms.list

/-- The four demands are those that the list, the step and the silence flag give (R146). -/
def Annunciated (t : State) : Prop :=
  t.out.red = t.annDemand .RED ∧ t.out.amber = t.annDemand .AMBER ∧ t.out.buzzer = t.annDemand .BUZZER ∧
    t.horn.demand = t.annDemand .HORN

/-- An entry that no acknowledge has reached (R138, R146). -/
def waitsForAck (e : AlarmEntry) : Bool :=
  e.state == .ACTIVE_UNACK || e.state == .CLEARED_UNACK

/-- The entries that govern an output: the unacknowledged ones for horn and buzzer, all for the beacons (R146). -/
def governors (s : State) : AnnOutput → List AlarmEntry
  | .HORN | .BUZZER => s.alarms.list.filter waitsForAck
  | .RED | .AMBER => s.alarms.list

/-- A class is the highest among some entries (R146). -/
def Highest (l : List AlarmEntry) : AnnClass → Prop
  | .TRIP => ∃ e ∈ l, e.cls = .TRIP
  | .STOP => (∀ e ∈ l, e.cls ≠ .TRIP) ∧ ∃ e ∈ l, e.cls = .STOP
  | .WARN => (∀ e ∈ l, e.cls ≠ .TRIP ∧ e.cls ≠ .STOP) ∧ ∃ e ∈ l, e.cls = .WARN

/-- A raise of a code finds its entry or room for one without an eviction. -/
def HasRoomFor (c : AlarmCode) (s : State) : Prop :=
  s.listed c = true ∨ s.alarms.list.length < 32

/-! ### Brakes -/

/-- A sequencer that a TRIP entry acts on: PROVING, OPENING or RELEASED (R94). -/
def isWorking (b : BrakeState) : Bool :=
  b == .PROVING || b == .OPENING || b == .RELEASED

/-- The coil line of every brake is energized in OPENING and RELEASED and off in every other state (R19, R87). -/
def CoilsFollowBrakes (s : State) : Prop :=
  ∀ m, s.out.coil.get m = ((s.brake m).state == .OPENING || (s.brake m).state == .RELEASED)

/-- No sequencer is in PROVING, OPENING or RELEASED while the list holds a TRIP entry whose scope contains its motion
(R94). -/
def TripHoldsBrakes (s : State) : Prop :=
  ∀ m, s.tripInhibit m = true → isWorking (s.brake m).state = false

/-- The drag brake works only in DIG and the walk brake only in WALK (R81, R96). -/
def TransferHoldsBrakes (s : State) : Prop :=
  (s.walk.transfer ≠ .DIG → isWorking (s.brake .D).state = false)
    ∧ (s.walk.transfer ≠ .WALK → isWorking (s.brake .W).state = false)

/-- XFER_COIL and the coil demand are on exactly in TO_WALK and WALK (R19, R100). -/
def TransferCoilSound (s : State) : Prop :=
  s.out.xfer = s.walk.coil ∧ s.walk.coil = (s.walk.transfer == .TO_WALK || s.walk.transfer == .WALK)

/-- The brake of a motion is neither proving nor open nor opening, and its coil is off. -/
def Resting (m : Motion) (t : State) : Prop :=
  isWorking (t.brake m).state = false ∧ t.out.coil.get m = false

/-- The transfer has ended in TRANSFER_FAULT by a disagreement, with a TRIP entry of a detail; the condition stays present
unless the contactor reads the dig position all the same (R107, R108). -/
def Disagreed (detail : Int) (t : State) : Prop :=
  t.walk.transfer = .TRANSFER_FAULT ∧ t.walk.coil = false ∧ t.out.xfer = false ∧ t.walk.modeReq = .DIG ∧
    t.walk.timer = none ∧ t.walk.positionCond = decide (t.contactor ≠ .DIG) ∧
    ∃ e ∈ t.alarms.list, e.code = .TRANSFER_POSITION ∧ e.cls = .TRIP ∧ e.detail = detail

/-- What R109 asks for before TRANSFER_FAULT is left. -/
def FaultMayEnd (s : State) : Prop :=
  s.listed .TRANSFER_TIMEOUT = false ∧ s.listed .TRANSFER_POSITION = false ∧
    (s.isOn .XFER_DIG_FB = true ∧ s.isOn .XFER_WALK_FB = false) ∧ (s.fb.stale = false ∧ s.fb.config = .DIG) ∧
    (s.brake .D).state = .SET ∧ (s.brake .W).state = .SET

/-- The transfer conditions are absent outside TRANSFER_FAULT, and while the contactor reads the dig position (R108). -/
def TransferCondsSound (s : State) : Prop :=
  s.walk.transfer ≠ .TRANSFER_FAULT ∨ s.contactor = .DIG → s.walk.timeoutCond = false ∧ s.walk.positionCond = false

/-! ### Buffers and values -/

/-- Every transmit queue holds at most 8 frames (R162) and the ring at most 256 records (R151). -/
def BuffersBounded (s : State) : Prop :=
  (∀ p, (s.port p).tx.length ≤ 8) ∧ s.trend.ring.length ≤ 256

/-- Every parameter of a profile has one of its values (section 11.5). -/
def ProfileInRange (w : Profile) : Prop :=
  ∀ q : Param, q.allows (w.get q) = true

/-- The profiles of the store are in range: the working one, those of the slots, and a snapshot being written. -/
def StoreInRange (s : State) : Prop :=
  ProfileInRange s.store.working ∧ (∀ n, ProfileInRange (s.store.slot n).content)
    ∧ ∀ n w, s.store.save = .WRITING n w → ProfileInRange w

/-- Every curtail level lies between its floor and 1000 (R122). -/
def LevelsInRange (s : State) : Prop :=
  ∀ c, s.par (floorParam c) ≤ s.budget.level.get c ∧ s.budget.level.get c ≤ 1000

/-- Every count lies in the range of its channel (R8, R9). -/
def CountsInRange (s : State) : Prop :=
  mag (s.chan .HOIST).count ≤ 2147483647 ∧ mag (s.chan .DRAG).count ≤ 2147483647
    ∧ (0 ≤ (s.chan .SWING).count ∧ (s.chan .SWING).count < s.par .SWING_CPR)
    ∧ (0 ≤ (s.chan .CAM_L).count ∧ (s.chan .CAM_L).count < s.par .CAM_CPR)
    ∧ (0 ≤ (s.chan .CAM_R).count ∧ (s.chan .CAM_R).count < s.par .CAM_CPR)

/-! ### What every step keeps -/

/-- The brakes are safe: coils follow their sequencers, no brake works against a TRIP entry or outside its transfer state,
and the transfer coil follows the transfer state. -/
def BrakesSafe (s : State) : Prop :=
  CoilsFollowBrakes s ∧ TripHoldsBrakes s ∧ TransferHoldsBrakes s ∧ TransferCoilSound s

/-- The alarm list is sound, and DRIVE_ENABLE follows it. -/
def AlarmsSafe (s : State) : Prop :=
  ListSound s ∧ DriveEnableSound s

/-- Every stored value lies in its range. -/
def ValuesInRange (s : State) : Prop :=
  StoreInRange s ∧ LevelsInRange s ∧ CountsInRange s

/-- A property is kept by every step. -/
def KeptByStep (P : State → Prop) : Prop :=
  ∀ s t, P s → step s = .next t → P t

/-! ### What an edge makes of a channel -/

/-- The count after a step: HOIST and DRAG keep a count that the step would carry past its limit (R8), the others wrap
(R9). -/
def countAfter (s : State) (ch : CountCh) (d : Sign) : Int :=
  match ch with
  | .HOIST | .DRAG =>
    if 2147483647 < mag ((s.chan ch).count + d.toInt) then (s.chan ch).count else (s.chan ch).count + d.toInt
  | .SWING => ((s.chan .SWING).count + d.toInt) % s.par .SWING_CPR
  | .CAM_L | .CAM_R => ((s.chan ch).count + d.toInt) % s.par .CAM_CPR

/-- The range condition after a step (R8). -/
def rangeAfter (s : State) (ch : CountCh) (d : Sign) : Bool :=
  match ch with
  | .HOIST | .DRAG => decide (2147483647 < mag ((s.chan ch).count + d.toInt))
  | .SWING | .CAM_L | .CAM_R => (s.chan ch).rangeCond

/-- The stamps after an edge at a time: the newest 8 (R10). -/
def stampsAfter (stamps : List (BitVec 32)) (now : Nat) : List (BitVec 32) :=
  (if stamps.length < 8 then stamps else stamps.tail) ++ [BitVec.ofNat 32 (now / 2)]

/-- The speed that a list of stamps gives (R11). -/
def speedAfter (stamps : List (BitVec 32)) : Nat :=
  if stamps.length < 2 then 0
  else (stamps.length - 1) * 1000000 / max 1 (stamps.getLastD 0 - stamps.headD 0).toNat

/-- The channel record after a counted edge at a time (R4, R6, R8 to R12). -/
def edgeRecord (s : State) (ch : CountCh) (d : Sign) (now : Nat) : CountChannel :=
  { count := countAfter s ch d
    dir := d
    stamps := stampsAfter (s.chan ch).stamps now
    speed := speedAfter (stampsAfter (s.chan ch).stamps now)
    standstill := false
    timer := timerEnd now (s.par (standstillParam ch))
    rangeCond := rangeAfter s ch d }

/-- The accepted level of a line once the line l has taken its raw level (R2). -/
def levelAfter (s : State) (l x : CountLine) : Bool :=
  if x = l then (s.line l).raw else (s.line x).accepted

/-- The sense of a quadrature edge of the line l (R4). -/
def quadratureSense (s : State) (l : CountLine) : Sign :=
  if (linePhase l = .A ↔ levelAfter s l (lineA (lineCh l)) ≠ levelAfter s l (lineB (lineCh l))) then .plus else .minus

/-- The state after the line l has taken its raw level at the end d of its filter time, and nothing more (R2). -/
def lineTaken (s : State) (l : CountLine) (d : Nat) : State :=
  (s.withTime (expiryTime s d)).setLine l ⟨(s.line l).raw, (s.line l).raw, none⟩

/-- The sense of the counted edge that the line l gives when it takes its raw level; none where that is no counted edge (R4,
R6). -/
def edgeSense (s : State) (l : CountLine) : Option Sign :=
  if linePhase l = .Z then none
  else if s.pulseMode (lineCh l) then
    if linePhase l = .A ∧ (s.line l).raw = true then some s.pulseDir else none
  else some (quadratureSense s l)

/-- The range alarm of a channel that saturates (R8). -/
def rangeAlarm : CountCh → Option AlarmCode
  | .HOIST => some .COUNT_RANGE_H
  | .DRAG => some .COUNT_RANGE_D
  | .SWING | .CAM_L | .CAM_R => none

/-- The overspeed alarm of a channel, with its threshold (R98). -/
def speedAlarm : CountCh → Option (AlarmCode × Param)
  | .HOIST => some (.OVERSPEED_H, .OVERSPEED_H)
  | .DRAG => some (.OVERSPEED_D, .OVERSPEED_D)
  | .SWING => some (.OVERSPEED_S, .OVERSPEED_S)
  | .CAM_L | .CAM_R => none

/-- The overspeed condition of a channel; the cams have none (R98). -/
def speedCond (s : State) : CountCh → Bool
  | .HOIST => s.drive.overspeed.H
  | .DRAG => s.drive.overspeed.D
  | .SWING => s.drive.overspeed.S
  | .CAM_L | .CAM_R => false

/-- The index line of a cam. -/
def camIndexLine : Cam → CountLine
  | .L => .CAM_L_Z
  | .R => .CAM_R_Z

/-- Sync state and count field after an index, and whether the cam is aligned at it (R112, R113). -/
def camLadder (sync : CamSync) (field : Nat) (agrees : Bool) : CamSync × Nat × Bool :=
  match sync, agrees with
  | .UNSYNCED, _ => (.SYNCING, 1, true)
  | .SYNCING, true => if 3 ≤ field + 1 then (.SYNCED, 0, true) else (.SYNCING, field + 1, true)
  | .SYNCING, false => (.SYNCING, 1, true)
  | .SYNCED, true => (.SYNCED, 0, true)
  | .SYNCED, false => if 3 ≤ field + 1 then (.UNSYNCED, 0, false) else (.SYNCED, field + 1, false)

/-! ### The walk -/

/-- Both cams are SYNCED. -/
def BothSynced (s : State) : Prop :=
  (s.walk.cams.get .L).sync = .SYNCED ∧ (s.walk.cams.get .R).sync = .SYNCED

/-- The step state works (R118). -/
def StepWorks (s : State) : Prop :=
  s.walk.transfer = .WALK ∧ s.walk.stepMode = .SINGLE ∧ BothSynced s

/-- The step state after a counted edge of CAM_L in a sense, with the cam at park before the edge and after it or not (R118;
log entry 30). -/
def stepGoes (d : Sign) (before after : Bool) : StepState → StepState
  | .ARMED => if after = true then .ARMED else .IN_CYCLE d
  | .IN_CYCLE e => if after = true ∧ d = e then .HELD e else .IN_CYCLE e
  | .HELD e => if before = true ∨ after = true then .HELD e else .IN_CYCLE d

/-- What the steering-permitted flag asks for, the walk output being the one last stored in WALK (R121). -/
def SteeringHolds (s : State) : Prop :=
  s.walk.transfer = .WALK ∧ BothSynced s ∧ s.walkPhase = .STEPPING ∧ s.walk.walkOutput = 0 ∧
    (s.chan .CAM_L).standstill = true

/-- The skew of the cams (R115). -/
def skewOf (s : State) : Int :=
  angDiff ((s.chan .CAM_L).count * 3600 / s.par .CAM_CPR) ((s.chan .CAM_R).count * 3600 / s.par .CAM_CPR)

/-- The skew has been judged while both cams are SYNCED, from s to t: the condition follows the limit, with a raise when it
appears and a clear when it goes, and no other event on its code (R115). -/
def SkewJudged (s t : State) : Prop :=
  (t.walk.skewCond = true ↔ t.par .SKEW_LIMIT < mag (skewOf t)) ∧
    (s.walk.skewCond = false → t.walk.skewCond = true → Raised .CAM_SKEW (skewOf t) t ∧ t.tripInhibit .W = true) ∧
    (s.walk.skewCond = true → t.walk.skewCond = false → Cleared .CAM_SKEW t) ∧
    (s.walk.skewCond = t.walk.skewCond → Untouched .CAM_SKEW s t)

/-! ### What a reference period finds -/

/-- What a statement about a reference period asks of the state: its timer runs, the list is sound, and the exit from
TRANSFER_FAULT, which is judged at every event that can allow it (R109), is not open. -/
def PeriodReady (s : State) (d : Nat) : Prop :=
  s.drive.refTimer = some d ∧ ListSound s ∧ s.mayLeaveTransferFault = false

/-- A demand bounded by a limit for each direction (R50, R71, R119). -/
def bounded (d pos neg : Int) : Int :=
  if 0 < d then min d pos else if d < 0 then max d (-neg) else 0

/-! ### Swing tables -/

/-- A radius entry, by its place from 0, fails the check of a TABLE_APPLY (R73). -/
def RadiusFails (l : List RadiusEntry) (i : Nat) : Prop :=
  30000 < (l.getD i ⟨0, 0, 0⟩).radius ∨ 1000 < (l.getD i ⟨0, 0, 0⟩).emptyLimit ∨
    1000 < (l.getD i ⟨0, 0, 0⟩).loadedLimit ∨
    0 < i ∧ (l.getD i ⟨0, 0, 0⟩).radius ≤ (l.getD (i - 1) ⟨0, 0, 0⟩).radius

/-- A sector fails the check of a TABLE_APPLY (R73). -/
def SectorFails (z : ZoneEntry) : Prop :=
  3599 < z.start ∨ 3599 < z.stop ∨ z.start = z.stop ∨ (z.kind ≠ 1 ∧ z.kind ≠ 2) ∨
    z.kind = 2 ∧ ∃ v, z.slow = some v ∧ 1000 < v

/-- A number is the detail of the first entry that fails: of a radius entry its number, of a sector 10 more (R73). -/
def FirstFailure (t : SwingTables) (n : Nat) : Prop :=
  (∃ i < t.radius.length, n = i + 1 ∧ RadiusFails t.radius i ∧ ∀ j < i, ¬ RadiusFails t.radius j) ∨
    (∀ j < t.radius.length, ¬ RadiusFails t.radius j) ∧
      ∃ i < t.zones.length, n = i + 11 ∧ SectorFails (t.zones.getD i ⟨0, 0, 0, none⟩) ∧
        ∀ j < i, ¬ SectorFails (t.zones.getD j ⟨0, 0, 0, none⟩)

/-! ### Received frames -/

/-- The command of a valid frame at a master's port (10 section 10.3). -/
def masterCommand (m : Master) (kind : Byte) (p : List Byte) : Instr :=
  if kind = 0x10 then .demand m p
  else if kind = 0x11 then .modeRequest m p
  else if kind = 0x20 then .alarmAck m p
  else if kind = 0x21 then .alarmSilence m p
  else if kind = 0x22 then .alarmReset m p
  else if kind = 0x23 then .alarmRead m p
  else .unknownKind m kind p

/-- The command of a valid frame at the SERVICE port (10 section 10.3). -/
def serviceCommand (kind : Byte) (p : List Byte) : Instr :=
  if kind = 0x30 then .claim p
  else if kind = 0x31 then .release p
  else if kind = 0x40 then .profileLoad p
  else if kind = 0x41 then .profileSave p
  else if kind = 0x42 then .paramWrite p
  else if kind = 0x43 then .paramRead p
  else if kind = 0x50 then .tableWrite p
  else if kind = 0x51 then .tableApply p
  else if kind = 0x52 then .tableDiscard p
  else if kind = 0x53 then .tableRead p
  else if kind = 0x58 then .ropeSet p
  else if kind = 0x60 then .trendRead p
  else if kind = 0x61 then .trendTrigger p
  else if kind = 0x62 then .trendRearm p
  else masterCommand .SERVICE kind p

/-- The port at which a command is the arrival of a valid frame, if it is one (R160, 10 section 10.3). -/
def framePort : Instr → Option Port
  | .demand m _ | .modeRequest m _ | .unknownKind m _ _ | .alarmAck m _ | .alarmSilence m _ | .alarmReset m _
  | .alarmRead m _ => some m.port
  | .claim _ | .release _ | .profileLoad _ | .profileSave _ | .paramWrite _ | .paramRead _ | .tableWrite _ | .tableApply _
  | .tableDiscard _ | .tableRead _ | .ropeSet _ | .trendRead _ | .trendTrigger _ | .trendRearm _ | .startSlotWrite _
  | .curtailFloorWrite _ _ | .swingCprWrite _ | .camParamWrite _ _ | .auxClassScopeWrite _ _ _ | .auxActiveWrite _ _
  | .envelopeOnWrite _ | .maskWrite _ _ => some .SERVICE
  | .driveStatus _ => some .DRIVE
  | _ => none

end Sys2Proof.Safety
end

