-- ==== Sys2Proof/Certificates/Slice0/Obligations.lean ====
section
/-! DEFINITION. The statements for the provers. -/

open Sys2Proof Sys2Proof.Machine Sys2Proof.Safety

/-! ### The machine -/

/-- A step with a command at the front of the queue is that command's effect with the queue's rest. -/
def Obligations.StepRunsTheFrontCommand : Prop :=
  ∀ (c : Instr) (rest : List Instr) (s : State),
    step (s.withPending (c :: rest)) = exec c (s.withPending rest)

/-- With no command waiting, a step takes the expiry of a timer that is due, or lets half a microsecond pass. Every timer of
the state counts, each with the command of its expiry. The model's choice: log entries 2 and 4. -/
def Obligations.IdleStepExpiresATimerOrLetsTimePass : Prop :=
  ∀ s : State,
    (∀ i d, (some d, i) ∈ s.allAlarms ↔ timerOf s i = some d) ∧
    (∀ i, i ∈ s.due ↔ ∃ d, timerOf s i = some d ∧ d ≤ s.time) ∧
    (s.pending = [] →
      (s.due = [] → step s = .next { s with time := s.time + 1 }) ∧
      (∀ i, s.due = [i] → step s = exec i s) ∧
      (2 ≤ s.due.length → ∃ i ∈ s.due, step s = exec i { s with freeCount := s.freeCount + 1 }))

/-- Every command answers a next state, leaves the queue as it is, and never takes time back but for RESET. That RESET keeps
the queue is the model's choice: log entry 27. -/
def Obligations.EveryCommandAnswersAndKeepsTheQueue : Prop :=
  ∀ (i : Instr) (s : State), ∃ t, exec i s = .next t ∧ t.pending = s.pending ∧ (i ≠ .reset → s.time ≤ t.time)

/-- The expiry command of a timer that does not run changes nothing. The model's choice: log entry 3. -/
def Obligations.StoppedTimersDoNotExpire : Prop :=
  ∀ s : State,
    (∀ l, (s.line l).timer = none → exec (.filterTimerExpiry l) s = .next s) ∧
    (∀ c, (s.chan c).timer = none → exec (.standstillTimerExpiry c) s = .next s) ∧
    (∀ d, (s.input d).timer = none → exec (.debounceTimerExpiry d) s = .next s) ∧
    (s.geo.sampleTimer = none → exec .geometrySample s = .next s) ∧
    (s.geo.holdTimer = none → exec .geometryHoldExpiry s = .next s) ∧
    (s.drive.refTimer = none → exec .referencePeriod s = .next s) ∧
    (∀ m, ((s.brake m).state ≠ .PROVING ∨ (s.brake m).timer = none) → exec (.proofTimerExpiry m) s = .next s) ∧
    (∀ m, ((s.brake m).state ≠ .OPENING ∨ (s.brake m).timer = none) → exec (.openTimeExpiry m) s = .next s) ∧
    (∀ m, ((s.brake m).state ≠ .RELEASED ∨ (s.brake m).timer = none) → exec (.setDelayExpiry m) s = .next s) ∧
    (∀ m, ((s.brake m).state ≠ .CLOSING ∨ (s.brake m).timer = none) → exec (.closeTimeExpiry m) s = .next s) ∧
    (s.walk.timer = none → exec .transferTimerExpiry s = .next s) ∧
    (s.walk.lubeTimer = none → exec .lubeTimerExpiry s = .next s) ∧
    (s.ports.link.timer = none → exec .missTimerExpiry s = .next s) ∧
    (∀ m, (s.ports.demand.get m).timer = none → exec (.demandHoldExpiry m) s = .next s) ∧
    (s.ports.serviceTimer = none → exec .serviceTimerExpiry s = .next s) ∧
    (∀ m, s.ports.statusTimer.get m = none → exec (.statusTimerExpiry m) s = .next s) ∧
    (s.alarms.patternTimer = none → exec .patternTimerExpiry s = .next s) ∧
    (s.alarms.envTimer = none → exec .envelopeTimerExpiry s = .next s) ∧
    ((s.trend.state ≠ .ARMED ∨ s.trend.timer = none) → exec .trendSlowExpiry s = .next s) ∧
    ((s.trend.state ≠ .POST_TRIGGER ∨ s.trend.timer = none) → exec .trendFastExpiry s = .next s) ∧
    (s.store.saveTimer = none → exec .saveTimerExpiry s = .next s) ∧
    (s.horn.timer = none → exec .hornSwitchingPeriod s = .next s)

/-! ### Reset -/

/-- The end of reset gives every block the values the spec states, from whatever state it comes, with the start-up load, the
record that a TRIP condition present at reset triggers, and the demands of the conditions raised. What RESET keeps, the
bounded targets before the first period, the bytes under the check words, the reading of R24, and that the trigger record
shows the brake and transfer states taken before the first raise are the model's choices: log entries 27, 9, 10, 31 and
24. -/
def Obligations.ResetGivesTheResetValues : Prop :=
  ∀ s : State, Answers .reset s fun t =>
    (t.time = 0 ∧ (∀ l, t.line l = ⟨(s.line l).raw, (s.line l).raw, none⟩) ∧
      (∀ c, t.chan c = ⟨0, .plus, [], 0, true, none, false⟩) ∧ t.pulseDir = .plus ∧
      (∀ d, t.input d = ⟨(s.input d).raw, (s.input d).raw, none⟩)) ∧
    (t.geo = ⟨⟨.UNREFERENCED, .UNREFERENCED⟩, ⟨false, false⟩, ⟨.UNREFERENCED, none, none, none, 0⟩,
        timerEnd 0 (t.par .GEO_PERIOD), timerEnd 0 (t.par .GEO_HOLD_TIME), false⟩ ∧
      t.env = ⟨0, 0, 0, 0, 0, 0, false, false, false⟩ ∧ t.swing = ⟨false, .EMPTY, false, false, 0, 0, 0, .ABSENT⟩) ∧
    (t.fb = ⟨⟨⟨0, 0, false, 0⟩, ⟨0, 0, false, 0⟩, ⟨0, 0, false, 0⟩⟩, .NONE, false, true⟩ ∧
      t.drive = ⟨⟨0, 0, 0⟩, ⟨0, 0, 0, 0⟩, timerEnd 0 (t.par .REF_PERIOD), ⟨false, false, false⟩⟩ ∧
      t.budget = ⟨⟨1000, 1000, 1000⟩, false, false⟩) ∧
    ((∀ m, t.brake m = ⟨if (s.input (feedbackInput m)).raw then .FAULT else .SET, none, false,
        (s.input (feedbackInput m)).raw⟩) ∧
      t.out.coil = ⟨false, false, false, false⟩ ∧ t.out.xfer = false ∧
      t.out.driveEnable = (s.input .ESTOP_OK).raw) ∧
    (let dig := (s.input .XFER_DIG_FB).raw && !(s.input .XFER_WALK_FB).raw;
      t.walk =
        { transfer := if dig then .DIG else .TRANSFER_FAULT, coil := false, modeReq := .DIG, timer := none
          stepMode := .SINGLE, timeoutCond := false, positionCond := !dig
          cams := ⟨⟨.UNSYNCED, 0, false⟩, ⟨.UNSYNCED, 0, false⟩⟩, skewCond := false, step := .ARMED
          walkOutput := 0, lubeTimer := none, lubeCond := false, steering := false, limit := 0, target := 0 }) ∧
    (Annunciated t ∧ t.out.horn = t.horn.demand ∧ t.horn.level = 1 ∧
      t.horn.timer = (if t.horn.demand then some 1000 else none) ∧ t.alarms.envLevel = 1 ∧
      t.alarms.envTimer = (if t.par .ENVELOPE_ON = 1 then timerEnd 0 (t.par .ENVELOPE_STEP) else none) ∧
      t.alarms.step = 0 ∧ t.alarms.patternTimer = timerEnd 0 125) ∧
    (match t.alarms.list.find? fun e => e.cls == .TRIP with
      | none => t.trend = ⟨[], .ARMED, timerEnd 0 (t.par .TREND_SLOW), 0, false⟩
      | some e => ∃ r, t.trend = ⟨[r], .POST_TRIGGER, timerEnd 0 (t.par .TREND_FAST), 0, false⟩ ∧ r.time = 0 ∧
          r.marker = some e.code.number ∧ r.highest = some .TRIP ∧ r.status = .UNREFERENCED ∧ r.stale = true ∧
          r.output = ⟨0, 0, 0⟩ ∧ r.transfer = t.walk.transfer ∧ ∀ m, r.brakes.get m = (t.brake m).state) ∧
    ((∀ p, (t.port p).rx = .HUNT ∧ (t.port p).tx = [] ∧ (t.port p).strapA = (s.port p).strapA ∧
        (t.port p).strapB = (s.port p).strapB ∧
        ((s.port p).strapA = true → (s.port p).strapB = true → (t.port p).rate = .b115200)) ∧
      (∀ m, t.ports.authority.get m = .CAB) ∧
      (∀ m, t.ports.interlock.get m = true) ∧ t.ports.zeroPassWait = false ∧
      (∀ m, t.ports.demand.get m = ⟨⟨0, 0, 0, 0⟩, none, false⟩) ∧ t.ports.cabContact = false ∧
      t.ports.cabLost = false ∧ t.ports.serviceTimer = none ∧ t.ports.serviceLost = false ∧
      t.ports.link = ⟨false, 0, 0, none, false⟩ ∧
      ∀ m, t.ports.statusTimer.get m = timerEnd 0 (t.par (statusParam m))) ∧
    (t.store.dirty = false ∧ t.store.save = .IDLE ∧ t.store.saveTimer = none ∧ t.store.saveFail = false ∧
      t.store.writes = s.store.writes ∧ (∀ n, t.store.slot n = s.store.slot n) ∧
      (s.store.startOk = true → t.store.startSlot = s.store.startSlot ∧ t.store.startCheck = s.store.startCheck) ∧
      (s.store.startOk = false → t.store.startSlot = 0 ∧ t.store.startCheck = startWord 0) ∧
      (s.store.startOk = true → s.store.slotValid s.store.startSlot = true → t.store.fallback = false ∧
        t.store.loaded = s.store.startSlot ∧ t.store.working = (s.store.slot s.store.startSlot).content) ∧
      (s.store.startOk = false ∨ s.store.slotValid s.store.startSlot = false → t.store.fallback = true ∧
        t.store.loaded = 0 ∧ t.store.working = Profile.factory))

/-- The conditions present at reset are raised in ascending order of code, each as an unacknowledged entry with both
times 0 and count 1, and the list-change counter counts them. That the counter counts each raise at reset is the model's
choice: log entry 6; so are the bytes under the check words that PROFILE_FALLBACK rests on: log entry 10. -/
def Obligations.ResetRaisesPresentConditionsInOrder : Prop :=
  ∀ s : State, Answers .reset s fun t =>
    (t.alarms.list.map fun e => e.code) =
      (if t.isOn .ESTOP_OK then [] else [AlarmCode.ESTOP])
        ++ (motions.filter t.feedbackOn).map brakeFaultCode
        ++ (if t.isOn .OVERHOIST_SW then [AlarmCode.OVERHOIST] else [])
        ++ (if t.isOn .BOOM_JACK_SW then [AlarmCode.BOOM_JACK] else [])
        ++ (if t.walk.transfer = .TRANSFER_FAULT then [AlarmCode.TRANSFER_POSITION] else [])
        ++ (if t.isOn .AUX1 then [AlarmCode.AUX_1] else [])
        ++ (if t.isOn .AUX2 then [AlarmCode.AUX_2] else [])
        ++ [AlarmCode.ROPE_UNREF, AlarmCode.SWING_UNREF]
        ++ (if s.store.startOk && s.store.slotValid s.store.startSlot then [] else [AlarmCode.PROFILE_FALLBACK]) ∧
    (t.alarms.list.map fun e => e.code.number).Pairwise (· < ·) ∧
    (∀ e ∈ t.alarms.list, e.state = .ACTIVE_UNACK ∧ e.first = 0 ∧ e.last = 0 ∧ e.count = 1 ∧
      e.cls = t.codeClass e.code ∧ e.scope = t.codeScope e.code) ∧
    (∀ e ∈ t.alarms.list, e.code = .PROFILE_FALLBACK →
      e.detail = if s.store.startOk then (s.store.startSlot : Int) else 4) ∧
    t.alarms.counter = BitVec.ofNat 8 t.alarms.list.length ∧ t.alarms.overflow = false ∧ t.alarms.silence = false

/-! ### Counting channels and discrete inputs -/

/-- A raw change starts the filter or debounce timer when the level differs from the accepted one and stops it when it
does not; nothing else changes. -/
def Obligations.RawChangesDriveTheirTimers : Prop :=
  ∀ (s : State) (level : Bool),
    (∀ l, exec (.countInputRawChange l level) s = .next (s.setLine l
      (if level = (s.line l).raw then s.line l
      else if level = (s.line l).accepted then ⟨level, level, none⟩
      else ⟨level, (s.line l).accepted, some (s.time + 2 * (s.par (filterParam (lineCh l))).toNat)⟩))) ∧
    (∀ d, exec (.discreteInputRawChange d level) s = .next (s.setInput d
      (if level = (s.input d).raw then s.input d
      else if level = (s.input d).level then ⟨level, level, none⟩
      else ⟨level, (s.input d).level,
        timerEnd s.time (match debounceParam d with | some q => s.par q | none => 2)⟩)))

/-- An accepted edge of A or B of a channel in QUADRATURE mode is a counted edge: the step of R4 under the range rule of
the channel, direction, stamp, speed and standstill. A step lost at the limit of HOIST or DRAG raises COUNT_RANGE once, with
the sign of the limit, and the step back clears it; a speed above the threshold of HOIST, DRAG or SWING raises OVERSPEED
once, which inhibits its motion, and without either the codes are left alone. Times are those of log entries 1 and 3. -/
def Obligations.QuadratureEdgesMoveTheirChannel : Prop :=
  ∀ (s : State) (l : CountLine) (d : Nat),
    linePhase l ≠ .Z → s.pulseMode (lineCh l) = false → (s.line l).timer = some d →
    let ch := lineCh l
    let sense := quadratureSense s l
    Answers (.filterTimerExpiry l) s fun t =>
      t.chan ch = edgeRecord s ch sense (expiryTime s d) ∧ (∀ c, c ≠ ch → t.chan c = s.chan c) ∧
      t.lines = (lineTaken s l d).lines ∧ t.time = expiryTime s d ∧ t.pulseDir = s.pulseDir ∧
      KeepsInputs s t ∧ t.geo = s.geo ∧ t.env = s.env ∧ t.fb = s.fb ∧ t.budget = s.budget ∧ t.ports = s.ports ∧
      t.drive.output = s.drive.output ∧
      (∀ code, rangeAlarm ch = some code →
        (rangeAfter s ch sense = true → (s.chan ch).rangeCond = false → ListSound s → s.alarms.list.length ≤ 30 →
          Raised code sense.toInt t) ∧
        (rangeAfter s ch sense = false → (s.chan ch).rangeCond = true → Cleared code t) ∧
        (rangeAfter s ch sense = (s.chan ch).rangeCond → Untouched code s t)) ∧
      (∀ code q, speedAlarm ch = some (code, q) →
        let above := speedCond s ch = false ∧ s.par q < (t.chan ch).speed
        (above → t.drive.overspeed = s.drive.overspeed.put ch true ∧
          (ListSound s → TripHoldsBrakes s → CoilsFollowBrakes s →
            Raised code (min 32767 ((t.chan ch).speed : Int)) t ∧
            ∀ m, standstillSource m = ch → t.tripInhibit m = true ∧ Resting m t)) ∧
        (¬ above → t.drive.overspeed = s.drive.overspeed ∧ Untouched code s t))

/-- In PULSE mode a cam counts the rising edges of A in the sense of the pulse direction; a falling edge of A and any
edge of B change the accepted level and nothing else. Times are those of log entries 1 and 3. -/
def Obligations.PulseModeCountsRisingEdgesOfA : Prop :=
  ∀ (s : State) (cam : Cam) (d : Nat), s.par .CAM_MODE = 1 →
    ((s.line (lineB (camCh cam))).timer = some d →
      exec (.filterTimerExpiry (lineB (camCh cam))) s = .next (lineTaken s (lineB (camCh cam)) d)) ∧
    ((s.line (lineA (camCh cam))).timer = some d → (s.line (lineA (camCh cam))).raw = false →
      exec (.filterTimerExpiry (lineA (camCh cam))) s = .next (lineTaken s (lineA (camCh cam)) d)) ∧
    ((s.line (lineA (camCh cam))).timer = some d → (s.line (lineA (camCh cam))).raw = true →
      Answers (.filterTimerExpiry (lineA (camCh cam))) s fun t =>
        t.chan (camCh cam) = edgeRecord s (camCh cam) s.pulseDir (expiryTime s d) ∧
        (∀ c, c ≠ camCh cam → t.chan c = s.chan c) ∧ t.pulseDir = s.pulseDir ∧
        t.lines = (lineTaken s (lineA (camCh cam)) d).lines)

/-- An index edge of the SWING channel is delivered to the swing limiter as one event, with its stamp of the microsecond clock
and the count; it sets the count to the index count and nothing else of the channel, leaves the swing REFERENCED, and settles
the slip condition; a falling edge of Z changes the accepted level only. Times are those of log entries 1 and 3. -/
def Obligations.SwingIndexRealignsTheCount : Prop :=
  ∀ (s : State) (d : Nat), ListSound s → (s.line .SWING_Z).timer = some d →
    ((s.line .SWING_Z).raw = false → exec (.filterTimerExpiry .SWING_Z) s = .next (lineTaken s .SWING_Z d)) ∧
    (lineTaken s .SWING_Z d).indexEvent .SWING =
      ⟨.SWING, BitVec.ofNat 32 (expiryTime s d / 2), (s.chan .SWING).count⟩ ∧
    ((s.line .SWING_Z).raw = true → exec (.filterTimerExpiry .SWING_Z) s = .next (endEvent s
      (swingIndex ((lineTaken s .SWING_Z d).indexEvent .SWING) (lineTaken s .SWING_Z d)))) ∧
    ((s.line .SWING_Z).raw = true → Answers (.filterTimerExpiry .SWING_Z) s fun t =>
      t.chan .SWING = { s.chan .SWING with count := s.par .SWING_INDEX_ANGLE * s.par .SWING_CPR / 3600 } ∧
      (∀ c, c ≠ .SWING → t.chan c = s.chan c) ∧ t.lines = (lineTaken s .SWING_Z d).lines ∧
      t.swing = { s.swing with
        referenced := true
        slip := s.swing.referenced && decide (s.par .SWING_INDEX_TOL <
          mag (angDiff ((s.chan .SWING).count * 3600 / s.par .SWING_CPR) (s.par .SWING_INDEX_ANGLE))) } ∧
      (t.swing.slip = true → HasRoomFor .SWING_SLIP s →
        Raised .SWING_SLIP (angDiff ((s.chan .SWING).count * 3600 / s.par .SWING_CPR) (s.par .SWING_INDEX_ANGLE)) t) ∧
      KeepsInputs s t ∧ t.geo = s.geo ∧ t.env = s.env ∧ KeepsDrive s t ∧ t.brakes = s.brakes ∧
      KeepsRecords s t ∧ t.ports = s.ports)

/-- An index edge of a cam is delivered to the walk unit as one event, with its stamp of the microsecond clock and the count; a
falling edge of Z changes the accepted level only. The index moves the cam's sync state and count field by the ladder of R112
and R113, and aligns the cam or leaves its count as it is. A cam that leaves SYNCED raises its sync alarm with the difference, arms the step and takes the
skew condition and the steering flag away; one that is SYNCED again clears it. An alignment has the skew and the steering
flag judged. Times are those of log entries 1 and 3. -/
def Obligations.CamIndexClimbsTheSyncLadder : Prop :=
  ∀ (s : State) (cam : Cam) (d : Nat),
    (s.line (camIndexLine cam)).timer = some d →
    ((s.line (camIndexLine cam)).raw = false →
      exec (.filterTimerExpiry (camIndexLine cam)) s = .next (lineTaken s (camIndexLine cam) d)) ∧
    (lineTaken s (camIndexLine cam) d).indexEvent (camCh cam) =
      ⟨camCh cam, BitVec.ofNat 32 (expiryTime s d / 2), (s.chan (camCh cam)).count⟩ ∧
    ((s.line (camIndexLine cam)).raw = true →
      exec (.filterTimerExpiry (camIndexLine cam)) s = .next (endEvent s
        (camIndex cam ((lineTaken s (camIndexLine cam) d).indexEvent (camCh cam)) (lineTaken s (camIndexLine cam) d)))) ∧
    ((s.line (camIndexLine cam)).raw = true →
      let difference := angDiff ((s.chan (camCh cam)).count * 3600 / s.par .CAM_CPR) (s.par .CAM_INDEX_ANGLE)
      let before := s.walk.cams.get cam
      let after := camLadder before.sync before.field (decide (mag difference ≤ s.par .CAM_INDEX_TOL))
      Answers (.filterTimerExpiry (camIndexLine cam)) s fun t =>
        (t.walk.cams.get cam).sync = after.1 ∧ (t.walk.cams.get cam).field = after.2.1 ∧
        t.chan (camCh cam) = { s.chan (camCh cam) with
          count := if after.2.2 then s.par .CAM_INDEX_ANGLE * s.par .CAM_CPR / 3600 else (s.chan (camCh cam)).count } ∧
        (∀ c, c ≠ camCh cam → t.chan c = s.chan c) ∧ (∀ c, c ≠ cam → t.walk.cams.get c = s.walk.cams.get c) ∧
        t.lines = (lineTaken s (camIndexLine cam) d).lines ∧ t.pulseDir = s.pulseDir ∧ KeepsInputs s t ∧
        t.geo = s.geo ∧ t.env = s.env ∧ KeepsDrive s t ∧ t.ports = s.ports ∧
        (before.sync = .SYNCED → after.1 = .UNSYNCED → (t.walk.cams.get cam).cond = true ∧ t.walk.step = .ARMED ∧
          t.walk.skewCond = false ∧ t.walk.steering = false ∧
          (HasRoomFor (camSyncCode cam) s → Raised (camSyncCode cam) difference t)) ∧
        (before.sync = .SYNCING → after.1 = .SYNCED → (t.walk.cams.get cam).cond = false ∧
          (before.cond = true → Cleared (camSyncCode cam) t)) ∧
        (¬ (before.sync = .SYNCED ∧ after.1 = .UNSYNCED) → t.walk.step = s.walk.step ∧
          (after.2.2 = true → (t.walk.steering = true ↔ SteeringHolds t) ∧
            (BothSynced t → ListSound s → SkewJudged s t) ∧ (¬ BothSynced t → t.walk.skewCond = s.walk.skewCond))))

/-- The expiry of a standstill timer sets the flag, empties the stamps and sets the speed to 0; it clears the overspeed
condition of the channel with its alarm, starts the set delay of a released brake that waits for it, and for CAM_L has the
steering flag judged. Times are those of log entries 1 and 3. -/
def Obligations.StandstillExpiryRestsTheChannel : Prop :=
  ∀ (s : State) (ch : CountCh) (d : Nat), (s.chan ch).timer = some d →
    Answers (.standstillTimerExpiry ch) s fun t =>
      t.chan ch = { s.chan ch with stamps := [], speed := 0, standstill := true, timer := none } ∧
      (∀ c, c ≠ ch → t.chan c = s.chan c) ∧ t.time = expiryTime s d ∧
      t.drive.overspeed = s.drive.overspeed.put ch false ∧ t.drive.output = s.drive.output ∧
      (∀ m, t.brake m = { s.brake m with
        timer := if (standstillSource m = ch ∧ (s.brake m).state = .RELEASED ∧ s.drive.output.get (channelOf m) = 0 ∧
            s.drive.bounded.get m = 0 ∧ (s.brake m).timer = none)
          then timerEnd (expiryTime s d) (s.par .SET_DELAY) else (s.brake m).timer }) ∧
      (∀ code q, speedAlarm ch = some (code, q) →
        (speedCond s ch = true → Cleared code t) ∧ (speedCond s ch = false → Untouched code s t)) ∧
      (ch = .CAM_L → (t.walk.steering = true ↔ SteeringHolds t)) ∧
      t.lines = s.lines ∧ t.pulseDir = s.pulseDir ∧ KeepsInputs s t ∧ KeepsPositions s t ∧ t.fb = s.fb ∧
      t.budget = s.budget ∧ t.out.coil = s.out.coil ∧ KeepsRecords s t ∧ t.ports = s.ports

/-- At the end of a debounce time the level takes the raw level. A change of TUB_SEATED or of LOCAL_KEY to on and the
end of a mark change nothing else; LOCAL_KEY going off gives every motion to CAB and arms the interlocks of those taken.
Times are those of log entries 1 and 3. -/
def Obligations.DebounceExpiryTakesTheRawLevel : Prop :=
  ∀ (s : State) (d : DI) (e : Nat), (s.input d).timer = some e →
    (Answers (.debounceTimerExpiry d) s fun t =>
      t.input d = ⟨(s.input d).raw, (s.input d).raw, none⟩ ∧ (∀ x, x ≠ d → t.input x = s.input x) ∧
      t.time = expiryTime s e ∧ KeepsCounting s t ∧ t.fb = s.fb ∧ t.budget = s.budget ∧ t.drive = s.drive ∧
      t.ports.line = s.ports.line) ∧
    (d = .TUB_SEATED ∨ (d = .LOCAL_KEY ∧ (s.input d).raw = true) ∨
        ((d = .HOIST_MARK ∨ d = .DRAG_MARK) ∧ (s.input d).raw = false) →
      exec (.debounceTimerExpiry d) s =
        .next ((s.withTime (expiryTime s e)).setInput d ⟨(s.input d).raw, (s.input d).raw, none⟩)) ∧
    (d = .LOCAL_KEY → (s.input d).raw = false → ListSound s → Answers (.debounceTimerExpiry d) s fun t =>
      (∀ m, t.ports.authority.get m = .CAB) ∧ t.ports.serviceTimer = none ∧
      (∀ m, t.ports.interlock.get m = (s.ports.interlock.get m || s.ports.authority.get m == .SERVICE)) ∧
      t.ports.demand = s.ports.demand ∧ t.ports.link = s.ports.link ∧ t.brakes = s.brakes)

/-- The emergency stop, the overhoist switch and the boom-jack switch: each change to its unsafe side lists a TRIP entry
that inhibits its motions, and none of their brakes stays at work or has its coil on. -/
def Obligations.SafetySwitchesTripTheirMotions : Prop :=
  ∀ (s : State) (d : Nat), ListSound s → CoilsFollowBrakes s → TripHoldsBrakes s →
    ((s.input .ESTOP_OK).timer = some d → (s.input .ESTOP_OK).raw = false →
      Answers (.debounceTimerExpiry .ESTOP_OK) s fun t =>
        Raised .ESTOP 0 t ∧ t.out.driveEnable = false ∧
        ∀ m, t.tripInhibit m = true ∧ isWorking (t.brake m).state = false ∧ t.out.coil.get m = false) ∧
    ((s.input .OVERHOIST_SW).timer = some d → (s.input .OVERHOIST_SW).raw = true →
      Answers (.debounceTimerExpiry .OVERHOIST_SW) s fun t =>
        Raised .OVERHOIST (match s.geo.record.lh with | some l => max (-32767) (min 32767 l) | none => 0) t ∧
        t.tripInhibit .H = true ∧ isWorking (t.brake .H).state = false ∧ t.out.coil.get .H = false ∧
        (∀ m, m ≠ .H → t.brake m = s.brake m)) ∧
    ((s.input .BOOM_JACK_SW).timer = some d → (s.input .BOOM_JACK_SW).raw = true →
      Answers (.debounceTimerExpiry .BOOM_JACK_SW) s fun t =>
        Raised .BOOM_JACK 0 t ∧ t.brake .W = s.brake .W ∧
        ∀ m, m ≠ .W → t.tripInhibit m = true ∧ isWorking (t.brake m).state = false ∧ t.out.coil.get m = false)

/-! ### Rope geometry -/

/-- A geometry sample publishes the record of R28 to R34: the lengths of R27, the status of R29, the position of a VALID
sample or the one held, and the age; it restarts its timer and starts or ends the hold. Times are those of log entries 1
and 3. -/
def Obligations.GeometrySamplePublishesTheRecord : Prop :=
  ∀ (s : State) (d : Nat), s.geo.sampleTimer = some d →
    (∀ r, s.ropeLength r = match s.geo.ref.get r with
      | .UNREFERENCED => none
      | .MARKED M Cm | .MANUAL M Cm => some (max (-2147483647) (min 2147483647
        (M + ((s.chan (ropeCh r)).count - Cm) * s.par (ropeScale r) / 65536)))) ∧
    Answers .geometrySample s fun t =>
      t.geo.record.lh = s.ropeLength .HOIST ∧ t.geo.record.ld = s.ropeLength .DRAG ∧
      t.geo.record.status = (match s.ropeLength .HOIST, s.ropeLength .DRAG with
        | some lh, some ld =>
          if lh < 0 ∨ 30000 < lh ∨ ld < 0 ∨ 30000 < ld then .RANGE
          else if lh + ld < s.par .CHORD_LEN then .SHORT
          else if s.par .CHORD_LEN < ld - lh then .DRAG_SLACK
          else if s.par .CHORD_LEN < lh - ld then .HOIST_SLACK
          else .VALID
        | _, _ => .UNREFERENCED) ∧
      (∀ lh ld, t.geo.record.status = .VALID → t.geo.record.lh = some lh → t.geo.record.ld = some ld →
        let a := chordA (s.par .CHORD_LEN) lh ld
        let h := chordH ld a
        t.geo.record.pos = some ⟨a, h,
          s.par .FAIRLEAD_X + roundDiv (a * s.par .CHORD_COS + h * s.par .CHORD_SIN) 32768,
          s.par .FAIRLEAD_Z + roundDiv (a * s.par .CHORD_SIN - h * s.par .CHORD_COS) 32768⟩) ∧
      (t.geo.record.status = .VALID → t.geo.record.age = 0 ∧ t.geo.holdTimer = none ∧ t.geo.lost = false) ∧
      (t.geo.record.status ≠ .VALID → t.geo.record.pos = s.geo.record.pos ∧
        t.geo.record.age = min 65535 (s.geo.record.age + 1) ∧ t.geo.lost = s.geo.lost ∧
        t.geo.holdTimer = if s.geo.holdTimer = none ∧ s.geo.lost = false
          then timerEnd (expiryTime s d) (s.par .GEO_HOLD_TIME) else s.geo.holdTimer) ∧
      t.geo.sampleTimer = timerEnd (expiryTime s d) (s.par .GEO_PERIOD) ∧ t.geo.ref = s.geo.ref ∧
      t.geo.slip = s.geo.slip ∧ KeepsCounting s t ∧ KeepsInputs s t ∧ t.env = s.env ∧ t.swing = s.swing ∧
      KeepsDrive s t ∧ t.brakes = s.brakes ∧ KeepsRecords s t ∧ t.ports = s.ports

/-- The position of a VALID sample: a is the nearest integer to N / 2D and lies within -Ld to Ld, and h is the integer
square root of Ld² - a². -/
def Obligations.ValidPositionIsExact : Prop :=
  ∀ D lh ld : Int, 1000 ≤ D → D ≤ 20000 → sampleStatus D (some lh) (some ld) = .VALID →
    let N := ld * ld - lh * lh + D * D
    let a := chordA D lh ld
    let h := chordH ld a
    (0 ≤ lh ∧ lh ≤ 30000 ∧ 0 ≤ ld ∧ ld ≤ 30000) ∧ (-900000000 ≤ N ∧ N ≤ 1300000000) ∧
    (-D ≤ 2 * D * a - N ∧ 2 * D * a - N ≤ D) ∧ (-ld ≤ a ∧ a ≤ ld) ∧
    0 ≤ h ∧ h * h ≤ ld * ld - a * a ∧ ld * ld - a * a < (h + 1) * (h + 1)

/-- A rope mark makes its rope MARKED at the count it finds and judges the slip of a rope that had a reference; an
accepted ROPE_SET makes its rope MANUAL and leaves the slip condition. -/
def Obligations.RopeReferencesFollowMarksAndRopeSet : Prop :=
  (∀ (s : State) (r : Rope) (i : DI) (e : Nat), i = (match r with | .HOIST => .HOIST_MARK | .DRAG => .DRAG_MARK) →
    ListSound s → (s.input i).timer = some e → (s.input i).raw = true → Answers (.debounceTimerExpiry i) s fun t =>
      t.geo.ref = s.geo.ref.set r (.MARKED (s.par (ropeMarkLen r)) (s.chan (ropeCh r)).count) ∧
      t.geo.slip = s.geo.slip.set r (match s.ropeLength r with
        | none => s.geo.slip.get r
        | some l => decide (s.par .MARK_TOL < mag (l - s.par (ropeMarkLen r)))) ∧
      t.geo.record = s.geo.record ∧ KeepsCounting s t ∧ t.brakes = s.brakes) ∧
  (∀ (s : State) (r : Rope) (p : List Byte), (s.port .SERVICE).tx.length < 8 → p.length = 3 →
    u8 p 0 = (match r with | .HOIST => 1 | .DRAG => 2) →
    (u16 p 1 ≤ 30000 → (s.brake (ropeBrake r)).state = .SET → Answers (.ropeSet p) s fun t =>
      t.geo = { s.geo with ref := s.geo.ref.set r (.MANUAL (u16 p 1) (s.chan (ropeCh r)).count) } ∧
      Sends .SERVICE (.reply 0x58 .OK 0) s t ∧ KeepsCounting s t ∧ KeepsInputs s t ∧ t.env = s.env ∧
      t.swing = s.swing ∧ KeepsDrive s t ∧ t.brakes = s.brakes ∧ KeepsRecords s t ∧ KeepsAuthority s t) ∧
    (30000 < u16 p 1 → Answers (.ropeSet p) s fun t =>
      t.geo = s.geo ∧ Sends .SERVICE (.reply 0x58 .RANGE 0) s t) ∧
    (u16 p 1 ≤ 30000 → (s.brake (ropeBrake r)).state ≠ .SET → Answers (.ropeSet p) s fun t =>
      t.geo = s.geo ∧ Sends .SERVICE (.reply 0x58 .REFUSED_STATE 0) s t))

/-- The expiry of the geometry hold raises GEOMETRY_LOST with the status of the latest record; the expiry of the lube
timer raises LUBE_LOW, whose STOP entry covers W. -/
def Obligations.HoldAndLubeExpiriesRaise : Prop :=
  ∀ (s : State) (d : Nat), ListSound s →
    (s.geo.holdTimer = some d → Answers .geometryHoldExpiry s fun t =>
      t.geo = { s.geo with holdTimer := none, lost := true } ∧
      (HasRoomFor .GEOMETRY_LOST s → Raised .GEOMETRY_LOST (match s.geo.record.status with
        | .VALID => 0 | .UNREFERENCED => 1 | .RANGE => 2 | .SHORT => 3 | .DRAG_SLACK => 4 | .HOIST_SLACK => 5) t) ∧
      KeepsCounting s t ∧ KeepsInputs s t ∧ t.env = s.env ∧ t.swing = s.swing ∧ KeepsDrive s t ∧
      t.brakes = s.brakes ∧ KeepsRecords s t ∧ t.ports = s.ports) ∧
    (s.walk.lubeTimer = some d → Answers .lubeTimerExpiry s fun t =>
      t.walk.lubeTimer = none ∧ t.walk.lubeCond = true ∧ Raised .LUBE_LOW 0 t ∧ t.stopInhibit .W = true ∧
      (∀ m, m ≠ .W → t.brake m = s.brake m) ∧
      ((s.brake .W).state ≠ .PROVING → t.brake .W = s.brake .W) ∧
      KeepsCounting s t ∧ KeepsInputs s t ∧ KeepsPositions s t ∧ KeepsDrive s t ∧ KeepsRecords s t ∧ t.ports = s.ports)

/-! ### Limits and outputs -/

/-- The slow-down limit for a margin and a span: its value, and what follows from the ranges of span and creep (R40). -/
def Obligations.SlowDownLimitHasItsForm : Prop :=
  (∀ (s : State) (span : Param) (m : Int), s.slowDown m span = slowDown (s.par .CREEP) m (s.par span)) ∧
  (∀ creep m S : Int, 10 ≤ S → 10 ≤ creep → creep ≤ 300 →
    (m ≤ 0 → slowDown creep m S = 0) ∧
    (0 < m → slowDown creep m S = max creep (min 1000 (1000 * m / S))) ∧
    (slowDown creep m S = 1000 ↔ S ≤ m) ∧
    (1 ≤ m → m ≤ S - 1 → creep ≤ slowDown creep m S ∧ slowDown creep m S ≤ 999) ∧
    ¬ (1 ≤ slowDown creep m S ∧ slowDown creep m S ≤ creep - 1)) ∧
  (∀ m : Int, (500 ≤ m → slowDown 50 m 500 = 1000) ∧ (25 ≤ m → m ≤ 499 → slowDown 50 m 500 = 2 * m) ∧
    (1 ≤ m → m ≤ 24 → slowDown 50 m 500 = 50) ∧ (m ≤ 0 → slowDown 50 m 500 = 0))

/-- A NO_ENTRY sector with the house outside it gives each direction the approach form over the distance to the edge in
that direction (R66). -/
def Obligations.NoEntrySectorSlowsTheApproach : Prop :=
  ∀ (z : ZoneEntry) (creep span α : Int), z.noEntry = true → z.holds α = false →
    let cw := (z.start - α) % 3600
    let ccw := (α - z.stop) % 3600
    (z.results creep span α).1 = (if cw = 0 then 0 else max creep (min 1000 (1000 * cw / span))) ∧
    (z.results creep span α).2 = (if ccw = 0 then 0 else max creep (min 1000 (1000 * ccw / span))) ∧
    (0 ≤ α → α ≤ 3599 → z.start ≤ 3599 → z.stop ≤ 3599 → z.start ≠ z.stop → 10 ≤ creep →
      (α = z.start → (z.results creep span α).1 = 0 ∧ 0 < (z.results creep span α).2) ∧
      (α = z.stop → (z.results creep span α).2 = 0 ∧ 0 < (z.results creep span α).1) ∧
      cw + ccw = 3600 - (z.stop - z.start) % 3600)

/-- The swing angle, the inside of a sector (R64) and the radius limit (R63) are formed as laid down. A SLOW sector gives its
slow limit inside and 1000 outside (R65); a NO_ENTRY sector with the house inside lets it out by the nearer edge at creep
(R67); the limits of a reference period are the smallest of the radius limit and all results in DIG, creep without a
reference, and the steering limit or 0 outside DIG (R69, R70), the target is bounded by them (R71), and the in-zone condition
follows the NO_ENTRY sectors while the swing is referenced (R68). -/
def Obligations.SwingLimitsFollowSectorsAndState : Prop :=
  (∀ (z : ZoneEntry) (α : Int), (z.noEntry = true ↔ z.kind = 1) ∧
    (z.holds α = true ↔ 0 < (α - z.start) % 3600 ∧ (α - z.start) % 3600 < ((z.stop : Int) - z.start) % 3600)) ∧
  (∀ s : State, s.swingAngle = (s.chan .SWING).count * 3600 / s.par .SWING_CPR ∧
    (s.store.working.tables.radius = [] → s.radiusLimitNow = 1000) ∧
    (s.store.working.tables.radius ≠ [] → s.geo.record.pos = none → s.radiusLimitNow = s.par .CREEP) ∧
    (∀ e l p, s.store.working.tables.radius = e :: l → (e :: l).Pairwise (fun f g => f.radius < g.radius) →
      s.geo.record.pos = some p →
      let limit (f : RadiusEntry) : Int := match s.swing.load with | .EMPTY => f.emptyLimit | .LOADED => f.loadedLimit
      (p.x < e.radius → s.radiusLimitNow = limit e) ∧
      (∀ f ∈ e :: l, f.radius ≤ p.x → (∀ g ∈ e :: l, g.radius ≤ p.x → g.radius ≤ f.radius) →
        s.radiusLimitNow = limit f))) ∧
  (∀ (z : ZoneEntry) (creep span α : Int), z.noEntry = false →
    (z.holds α = true → z.results creep span α = (((z.slow.getD 0 : Nat) : Int), ((z.slow.getD 0 : Nat) : Int))) ∧
    (z.holds α = false → z.results creep span α = (1000, 1000))) ∧
  (∀ (z : ZoneEntry) (creep span α : Int), z.noEntry = true → z.holds α = true →
    z.results creep span α =
      if (z.stop - α) % 3600 ≤ (α - z.start) % 3600 then (creep, 0) else (0, creep)) ∧
  (∀ (s : State) (d : Nat), PeriodReady s d → Answers .referencePeriod s fun t =>
    (s.walk.transfer = .DIG → s.swing.referenced = false → t.swing.cw = s.par .CREEP ∧ t.swing.ccw = s.par .CREEP) ∧
    (s.walk.transfer = .DIG → s.swing.referenced = true →
      (t.swing.cw ≤ s.radiusLimitNow ∧ t.swing.ccw ≤ s.radiusLimitNow ∧
        ∀ z ∈ s.store.working.tables.zones,
          t.swing.cw ≤ (z.results (s.par .CREEP) (s.par .SWING_APPROACH_SPAN) s.swingAngle).1 ∧
          t.swing.ccw ≤ (z.results (s.par .CREEP) (s.par .SWING_APPROACH_SPAN) s.swingAngle).2) ∧
      (t.swing.cw = s.radiusLimitNow ∨ ∃ z ∈ s.store.working.tables.zones,
        t.swing.cw = (z.results (s.par .CREEP) (s.par .SWING_APPROACH_SPAN) s.swingAngle).1) ∧
      (t.swing.ccw = s.radiusLimitNow ∨ ∃ z ∈ s.store.working.tables.zones,
        t.swing.ccw = (z.results (s.par .CREEP) (s.par .SWING_APPROACH_SPAN) s.swingAngle).2)) ∧
    (s.walk.transfer ≠ .DIG →
      t.swing.cw = (if s.walk.steering then s.par .STEER_LIMIT else 0) ∧ t.swing.ccw = t.swing.cw) ∧
    t.swing.target = bounded (s.effectiveDemand .S) t.swing.cw t.swing.ccw ∧
    (s.swing.referenced = true →
      t.swing.inZone = s.store.working.tables.zones.any fun z => z.noEntry && z.holds s.swingAngle) ∧
    (s.swing.referenced = false → t.swing.inZone = s.swing.inZone) ∧
    (∀ c, t.chan c = s.chan c) ∧ t.swing.referenced = s.swing.referenced ∧ t.swing.load = s.swing.load)

/-- A reference period forms the hoist and drag limits by the transfer state, the overhoist switch and the record (R44
to R47), the targets (R50) and the three limit conditions (R51 to R53). A record counts when it is VALID, with its lengths
and its position. -/
def Obligations.ReferencePeriodFormsHoistAndDragLimits : Prop :=
  ∀ (s : State) (d : Nat), PeriodReady s d → Answers .referencePeriod s fun t =>
    (∀ lh ld p, s.validRecord = some (lh, ld, p) ↔ s.geo.record.status = .VALID ∧ s.geo.record.lh = some lh ∧
      s.geo.record.ld = some ld ∧ s.geo.record.pos = some p) ∧
    (s.walk.transfer ≠ .DIG →
      t.env.hoistUp = 0 ∧ t.env.hoistDown = 0 ∧ t.env.dragIn = 0 ∧ t.env.dragOut = 0) ∧
    (s.walk.transfer = .DIG → s.isOn .OVERHOIST_SW = true → t.env.hoistUp = 0) ∧
    (s.walk.transfer = .DIG → s.validRecord = none →
      (s.isOn .OVERHOIST_SW = false → t.env.hoistUp = s.par .CREEP) ∧
      t.env.hoistDown = s.par .CREEP ∧ t.env.dragIn = s.par .CREEP ∧ t.env.dragOut = s.par .CREEP) ∧
    (∀ lh ld p, s.walk.transfer = .DIG → s.validRecord = some (lh, ld, p) →
      let inZone := decide (s.par .JACK_A ≤ p.a) && decide (p.h < s.par .JACK_H)
      let jack := if p.h ≤ s.par .JACK_H_STOP then 0 else max (s.par .CREEP)
        (1000 * (p.h - s.par .JACK_H_STOP) / (s.par .JACK_H - s.par .JACK_H_STOP))
      let twoBlock := slowDown (s.par .CREEP) (lh - s.par .HOIST_MIN_LEN) (s.par .HOIST_SLOW_SPAN)
      let fairlead := slowDown (s.par .CREEP) (ld - s.par .DRAG_MIN_LEN) (s.par .DRAG_SLOW_SPAN)
      (s.isOn .OVERHOIST_SW = false → t.env.hoistUp = if inZone then min twoBlock jack else twoBlock) ∧
      t.env.hoistDown = slowDown (s.par .CREEP) (s.par .HOIST_MAX_LEN - lh) (s.par .HOIST_SLOW_SPAN) ∧
      t.env.dragIn = (if inZone then min fairlead jack else fairlead) ∧
      t.env.dragOut = slowDown (s.par .CREEP) (s.par .DRAG_MAX_LEN - ld) (s.par .DRAG_SLOW_SPAN)) ∧
    (∀ lh ld p, s.validRecord = some (lh, ld, p) →
      t.env.hoistTop = decide (slowDown (s.par .CREEP) (lh - s.par .HOIST_MIN_LEN) (s.par .HOIST_SLOW_SPAN) < 1000) ∧
      t.env.fairlead = decide (slowDown (s.par .CREEP) (ld - s.par .DRAG_MIN_LEN) (s.par .DRAG_SLOW_SPAN) < 1000) ∧
      t.env.jackZone = (decide (s.par .JACK_A ≤ p.a) && decide (p.h < s.par .JACK_H))) ∧
    (s.validRecord = none → t.env.hoistTop = s.env.hoistTop ∧ t.env.fairlead = s.env.fairlead ∧
      t.env.jackZone = s.env.jackZone) ∧
    t.env.hoistTarget = bounded (s.effectiveDemand .H) t.env.hoistUp t.env.hoistDown ∧
    t.env.dragTarget = bounded (s.effectiveDemand .D) t.env.dragIn t.env.dragOut ∧
    t.lines = s.lines ∧ t.chans = s.chans ∧ KeepsInputs s t ∧ t.geo = s.geo ∧ t.fb = s.fb ∧
    t.budget.level = s.budget.level ∧ KeepsAuthority s t

/-- The outputs of a reference period: which motion and brake a channel carries (R81), the bounded target under the scaled
limits and the inhibits (R82, R83), the ramp by one step at the normal or the quick-stop rate (R84), and the final bound with
the gating (R85). Hence an output is 0 unless its active brake is RELEASED and no TRIP inhibit covers its motion, never beyond
the scaled limit of its direction, never hoisting up against the overhoist switch or past two-block, and outside DIG a swing
output only while steering is permitted. -/
def Obligations.ReferencePeriodBoundsTheOutputs : Prop :=
  (∀ tr : TransferState, carried tr .HOIST = .H ∧ carried tr .SWING = .S ∧
    carried tr .DRAG_WALK = (if tr = .WALK then .W else .D) ∧
    activeBrake tr .HOIST = some .H ∧ activeBrake tr .SWING = some .S ∧
    activeBrake tr .DRAG_WALK = (if tr = .DIG then some .D else if tr = .WALK then some .W else none) ∧
    (∀ c, inhibitMotions tr c =
      if c = .DRAG_WALK ∧ tr ≠ .DIG ∧ tr ≠ .WALK then [.D, .W] else [carried tr c])) ∧
  (∀ (s : State) (d : Nat), PeriodReady s d → Answers .referencePeriod s fun t =>
    let scaledBy (c : Channel) (limit : Int) : Int := limit * s.budget.level.get c / 1000
    let pos (c : Channel) : Int := scaledBy c (t.limitsOf (carried s.walk.transfer c)).1
    let neg (c : Channel) : Int := scaledBy c (t.limitsOf (carried s.walk.transfer c)).2
    let trip (c : Channel) : Bool := (inhibitMotions s.walk.transfer c).any s.tripInhibit
    let stop (c : Channel) : Bool := (inhibitMotions s.walk.transfer c).any s.stopInhibit
    let aim (c : Channel) : Int := if trip c || stop c then 0
      else bounded (t.targetOf (carried s.walk.transfer c)) (pos c) (neg c)
    let normal (c : Channel) : Param := match c with
      | .HOIST => .ACCEL_H | .DRAG_WALK => .ACCEL_DW | .SWING => .ACCEL_S
    (∀ m, t.drive.bounded.get m =
      if activeBrake s.walk.transfer (channelOf m) = some m then aim (channelOf m) else 0) ∧
    (∀ c,
      let old := s.drive.output.get c
      let rate := if stop c = true ∨ (0 < old ∧ pos c < old) ∨ (old < 0 ∧ neg c < -old)
        then s.par .QSTOP_RATE else s.par (normal c)
      let stepBy := max 1 (rate * s.par .REF_PERIOD / 1000)
      let moved := if trip c then 0
        else if mag (aim c - old) ≤ stepBy then aim c else if old < aim c then old + stepBy else old - stepBy
      t.drive.output.get c = if s.activeIs c .RELEASED then bounded moved (pos c) (neg c) else 0)) ∧
  (∀ (s : State) (d : Nat), PeriodReady s d → ProfileInRange s.store.working → LevelsInRange s →
    Answers .referencePeriod s fun t =>
      (∀ c, s.activeIs c .RELEASED = false → t.drive.output.get c = 0) ∧
      (∀ c, (∃ m ∈ inhibitMotions s.walk.transfer c, s.tripInhibit m = true) → t.drive.output.get c = 0) ∧
      (∀ c, let l := t.limitsOf (carried s.walk.transfer c)
        t.drive.output.get c ≤ l.1 * s.budget.level.get c / 1000 ∧
        -(l.2 * s.budget.level.get c / 1000) ≤ t.drive.output.get c) ∧
      (s.isOn .OVERHOIST_SW = true → t.drive.output.HOIST ≤ 0) ∧
      (∀ lh ld p, s.validRecord = some (lh, ld, p) → lh ≤ s.par .HOIST_MIN_LEN → t.drive.output.HOIST ≤ 0) ∧
      (s.walk.transfer ≠ .DIG → t.drive.output.SWING ≠ 0 → s.walk.steering = true ∧
        mag t.drive.output.SWING ≤ s.par .STEER_LIMIT) ∧
      t.fb = s.fb ∧ t.drive.overspeed = s.drive.overspeed)

/-- A reference period restarts its timer, queues a REFERENCE frame with the outputs, the flags and the mode request,
and in WALK stores the walk output and turns the pulse direction with it. The QSTOP flag, the frame that waits behind the
one being sent, and that the walk output keeps its stored value outside WALK are the model's choices: log entries 15, 13
and 28. Times are those of log entries 1 and 3. -/
def Obligations.ReferencePeriodSendsTheFrame : Prop :=
  ∀ (s : State) (d : Nat), PeriodReady s d →
    ((s.port .DRIVE).tx.length < 8 ∨ (s.port .DRIVE).tx.tail.any TxFrame.isReference = true) →
    Answers .referencePeriod s fun t =>
      t.time = expiryTime s d ∧ t.drive.refTimer = timerEnd (expiryTime s d) (s.par .REF_PERIOD) ∧
      (∃ b : PerChannel RefBlock, .reference b s.walk.modeReq ∈ (t.port .DRIVE).tx ∧ ∀ c,
        (b.get c).output = t.drive.output.get c ∧ (b.get c).enable = t.activeIs c .RELEASED ∧
        (b.get c).prove = t.activeIs c .PROVING ∧
        ((b.get c).qstop = true ↔
          (∃ m ∈ inhibitMotions s.walk.transfer c, s.inhibited m = true) ∨
          (t.limitsOf (carried s.walk.transfer c)).1 * s.budget.level.get c / 1000 < max 0 (s.drive.output.get c) ∧
            0 < s.drive.output.get c ∨
          (t.limitsOf (carried s.walk.transfer c)).2 * s.budget.level.get c / 1000 < max 0 (-s.drive.output.get c) ∧
            s.drive.output.get c < 0)) ∧
      (s.walk.transfer = .WALK → t.walk.walkOutput = t.drive.output.DRAG_WALK ∧
        t.pulseDir = (if t.drive.output.DRAG_WALK = 0 then s.pulseDir
          else if t.drive.output.DRAG_WALK < 0 then .minus else .plus)) ∧
      (s.walk.transfer ≠ .WALK → t.walk.walkOutput = s.walk.walkOutput ∧ t.pulseDir = s.pulseDir) ∧
      t.walk.modeReq = s.walk.modeReq ∧ (t.port .CAB).tx = (s.port .CAB).tx ∧ (t.port .SERVICE).tx = (s.port .SERVICE).tx

/-! ### Brakes -/

/-- A sequencer leaves SET at a reference period exactly when its bounded target is nonzero and all of R88 holds, to
PROVING with a proof threshold and to OPENING without one; a bounded target of 0, and nothing else at the period, clears the
proof lockout, in whatever state the sequencer is. That the lockout is cleared in every state is the model's choice: log
entry 16. Times are those of log entries 1 and 3. -/
def Obligations.BrakesLeaveSetOnlyWhenAllowed : Prop :=
  ∀ (s : State) (d : Nat), PeriodReady s d → Answers .referencePeriod s fun t =>
    ∀ m, ((s.brake m).state = .SET →
      ((t.brake m).state ≠ .SET ↔
        t.drive.bounded.get m ≠ 0 ∧ s.ports.link.inStep = true ∧ (s.fb.chan.get (channelOf m)).ready = true ∧
        s.isOn .ESTOP_OK = true ∧ (s.brake m).lockout = false ∧ s.tripInhibit m = false ∧ s.stopInhibit m = false) ∧
      ((t.brake m).state ≠ .SET →
        (0 < s.par (proofParam m) → (t.brake m).state = .PROVING ∧
          (t.brake m).timer = timerEnd (expiryTime s d) (s.par .PROOF_TIME) ∧ t.out.coil.get m = false) ∧
        (s.par (proofParam m) ≤ 0 → (t.brake m).state = .OPENING ∧
          (t.brake m).timer = timerEnd (expiryTime s d) (s.par .OPEN_TIME) ∧ t.out.coil.get m = true))) ∧
    (t.drive.bounded.get m = 0 → (t.brake m).lockout = false) ∧
    (t.drive.bounded.get m ≠ 0 → (t.brake m).lockout = (s.brake m).lockout)

/-- The expiries of the brake timer: a failed proof locks the brake in SET, an opening that did not come and a closing
that did not end are faults with the coil off, and the set delay closes the brake. Times are those of log entries 1 and
3. -/
def Obligations.BrakeTimersEndAsTheRulesSay : Prop :=
  ∀ (s : State) (m : Motion) (d : Nat), ListSound s → (s.brake m).timer = some d →
    ((s.brake m).state = .PROVING → Answers (.proofTimerExpiry m) s fun t =>
      t.brake m = { s.brake m with state := .SET, timer := none, lockout := true } ∧ t.out.coil.get m = false ∧
      (m = .H → Raised .PROOF_FAIL_H (s.fb.chan.get .HOIST).current t) ∧
      (m = .D → Raised .PROOF_FAIL_D (s.fb.chan.get .DRAG_WALK).current t) ∧
      (∀ x, x ≠ m → t.brake x = s.brake x) ∧ KeepsCounting s t ∧ KeepsInputs s t ∧ KeepsDrive s t ∧ t.ports = s.ports) ∧
    ((s.brake m).state = .OPENING → Answers (.openTimeExpiry m) s fun t =>
      t.brake m = { s.brake m with state := .FAULT, timer := none, faultCond := s.feedbackOn m } ∧
      t.out.coil.get m = false ∧ (∃ e ∈ t.alarms.list, e.code = brakeFaultCode m ∧ e.cls = .TRIP ∧ e.detail = 2) ∧
      (∀ x, x ≠ m → t.brake x = s.brake x) ∧ KeepsCounting s t ∧ KeepsInputs s t ∧ KeepsDrive s t ∧ t.ports = s.ports) ∧
    ((s.brake m).state = .RELEASED → Answers (.setDelayExpiry m) s fun t =>
      t.brake m = (if s.feedbackOn m
        then { s.brake m with state := .CLOSING, timer := timerEnd (expiryTime s d) (s.par .CLOSE_TIME) }
        else { s.brake m with state := .SET, timer := none }) ∧
      t.out.coil.get m = false ∧
      (∀ x, x ≠ m → t.brake x = s.brake x) ∧ KeepsCounting s t ∧ KeepsInputs s t ∧ KeepsDrive s t ∧ t.ports = s.ports) ∧
    ((s.brake m).state = .CLOSING → Answers (.closeTimeExpiry m) s fun t =>
      t.brake m = { s.brake m with state := .FAULT, timer := none, faultCond := s.feedbackOn m } ∧
      t.out.coil.get m = false ∧ (∃ e ∈ t.alarms.list, e.code = brakeFaultCode m ∧ e.cls = .TRIP ∧ e.detail = 4) ∧
      (∀ x, x ≠ m → t.brake x = s.brake x) ∧ KeepsCounting s t ∧ KeepsInputs s t ∧ KeepsDrive s t ∧ t.ports = s.ports)

/-- The change events of a brake's feedback: an opening brake is RELEASED, a closing brake is SET, and a feedback
against the state is a fault with the coil off. A drag or walk brake that becomes SET lets TRANSFER_FAULT end when nothing
else stands against it. Times are those of log entries 1 and 3. -/
def Obligations.BrakeFeedbackMovesTheSequencer : Prop :=
  ∀ (s : State) (m : Motion) (d : Nat), ListSound s → (s.input (feedbackInput m)).timer = some d →
    let i : Instr := .debounceTimerExpiry (feedbackInput m)
    let on := (s.input (feedbackInput m)).raw
    let fault (t : State) (detail : Int) : Prop :=
      ∃ e ∈ t.alarms.list, e.code = brakeFaultCode m ∧ e.cls = .TRIP ∧ e.detail = detail
    (on = true → (s.brake m).state = .OPENING → Answers i s fun t =>
      t.brake m = { s.brake m with
        state := .RELEASED
        timer := if s.drive.output.get (channelOf m) = 0 ∧ s.drive.bounded.get m = 0 ∧
            (s.chan (standstillSource m)).standstill = true
          then timerEnd (expiryTime s d) (s.par .SET_DELAY) else none } ∧ t.out.coil.get m = true) ∧
    (on = false → (s.brake m).state = .CLOSING → Answers i s fun t =>
      (t.brake m).state = .SET ∧ (t.brake m).timer = none ∧ t.out.coil.get m = false ∧
      (m = .D ∨ m = .W → s.walk.transfer = .TRANSFER_FAULT → (t.walk.transfer = .DIG ↔ FaultMayEnd t))) ∧
    (on = false → (s.brake m).state = .RELEASED → Answers i s fun t =>
      t.brake m = { s.brake m with state := .FAULT, timer := none, faultCond := false } ∧
      t.out.coil.get m = false ∧ fault t 3) ∧
    (on = true → (s.brake m).state = .PROVING → Answers i s fun t =>
      t.brake m = { s.brake m with state := .FAULT, timer := none, faultCond := true } ∧
      t.out.coil.get m = false ∧ fault t 1) ∧
    (on = true → (s.brake m).state = .SET → Answers i s fun t =>
      (t.brake m).state = (if s.inhibited m then .SET else .FAULT) ∧ (t.brake m).faultCond = true ∧ fault t 1) ∧
    (Answers i s fun t => (∀ x, x ≠ m → t.brake x = s.brake x) ∧ KeepsCounting s t ∧ KeepsDrive s t ∧ t.ports = s.ports)

/-! ### Walking -/

/-- A MODE_REQUEST that meets its conditions is carried out: to TO_WALK with the coil on, or to TO_DIG with the coil
off, with the transfer timer started and the answer OK. -/
def Obligations.ModeRequestsCarriedOut : Prop :=
  ∀ (s : State) (m : Master) (p : List Byte) (mode : StepMode), ListSound s → (s.port m.port).tx.length < 8 →
    p.length = 2 → u8 p 1 = (match mode with | .SINGLE => 1 | .CONTINUOUS => 2) →
    s.ports.authority.get .D = m → s.ports.authority.get .W = m →
    (u8 p 0 = 2 → s.walk.transfer = .DIG → (∀ x, (s.brake x).state = .SET) → s.geo.record.status = .VALID →
      (∃ q, s.geo.record.pos = some q ∧ q.z ≤ s.par .GROUND_Z) → s.isOn .LUBE_OK = true → s.isOn .TUB_SEATED = true →
      s.ports.link.inStep = true → s.inhibited .D = false → s.inhibited .W = false →
      Answers (.modeRequest m p) s fun t =>
        t.walk.transfer = .TO_WALK ∧ t.walk.coil = true ∧ t.out.xfer = true ∧ t.walk.modeReq = .WALK ∧
        t.walk.stepMode = mode ∧ t.walk.timer = timerEnd s.time (s.par .TRANSFER_TIME) ∧
        Sends m.port (.reply 0x11 .OK 0) s t ∧ t.brakes = s.brakes ∧ KeepsCounting s t ∧ KeepsInputs s t ∧
        KeepsPositions s t ∧ KeepsDrive s t ∧ KeepsRecords s t ∧ KeepsAuthority s t) ∧
    (u8 p 0 = 1 → (s.walk.transfer = .TO_WALK ∨
        s.walk.transfer = .WALK ∧ (s.brake .W).state = .SET ∧ s.isOn .TUB_SEATED = true) →
      Answers (.modeRequest m p) s fun t =>
        t.walk.transfer = .TO_DIG ∧ t.walk.coil = false ∧ t.out.xfer = false ∧ t.walk.modeReq = .DIG ∧
        t.walk.timer = timerEnd s.time (s.par .TRANSFER_TIME) ∧ t.walk.stepMode = s.walk.stepMode ∧
        Sends m.port (.reply 0x11 .OK 0) s t ∧ t.brakes = s.brakes ∧ KeepsCounting s t ∧ KeepsInputs s t ∧
        KeepsPositions s t ∧ KeepsDrive s t ∧ KeepsRecords s t ∧ KeepsAuthority s t)

/-- A MODE_REQUEST is refused in the order of R102, R103 and R105, with the reason of the first condition that fails,
and the walk unit stays as it is. -/
def Obligations.ModeRequestsRefusedInOrder : Prop :=
  ∀ (s : State) (m : Master) (p : List Byte), ListSound s → (s.port m.port).tx.length < 8 →
    let refused (r : ReplyResult) (detail : Int) : Prop := Answers (.modeRequest m p) s fun t =>
      Sends m.port (.reply 0x11 r detail) s t ∧ t.walk = s.walk ∧ t.brakes = s.brakes ∧ t.out.xfer = s.out.xfer
    let wellFormed := p.length = 2 ∧ (u8 p 0 = 1 ∨ u8 p 0 = 2) ∧ (u8 p 1 = 1 ∨ u8 p 1 = 2)
    let holder := s.ports.authority.get .D = m ∧ s.ports.authority.get .W = m
    let set := ∀ x, (s.brake x).state = .SET
    (p.length ≠ 2 → refused .BAD_LENGTH p.length) ∧
    (p.length = 2 → ¬ wellFormed → refused .RANGE 0) ∧
    (wellFormed → ¬ holder → refused .NOT_HOLDER 0) ∧
    (wellFormed → holder → u8 p 0 = 2 → s.walk.transfer = .DIG →
      (¬ set → refused .REFUSED_STATE 1) ∧
      (set → s.grounded = false → refused .REFUSED_STATE 2) ∧
      (set → s.grounded = true → s.isOn .LUBE_OK = false → refused .REFUSED_STATE 3) ∧
      (set → s.grounded = true → s.isOn .LUBE_OK = true → s.isOn .TUB_SEATED = false → refused .REFUSED_STATE 4) ∧
      (set → s.grounded = true → s.isOn .LUBE_OK = true → s.isOn .TUB_SEATED = true → s.ports.link.inStep = false →
        refused .REFUSED_STATE 5) ∧
      (set → s.grounded = true → s.isOn .LUBE_OK = true → s.isOn .TUB_SEATED = true → s.ports.link.inStep = true →
        s.inhibited .D = true ∨ s.inhibited .W = true → refused .REFUSED_STATE 6)) ∧
    (wellFormed → holder → u8 p 0 = 1 → s.walk.transfer = .WALK →
      ((s.brake .W).state ≠ .SET → refused .REFUSED_STATE 1) ∧
      ((s.brake .W).state = .SET → s.isOn .TUB_SEATED = false → refused .REFUSED_STATE 4)) ∧
    (wellFormed → holder →
      (s.walk.transfer = .TO_DIG ∨ s.walk.transfer = .TRANSFER_FAULT ∨ (s.walk.transfer = .DIG ∧ u8 p 0 = 1) ∨
        ((s.walk.transfer = .WALK ∨ s.walk.transfer = .TO_WALK) ∧ u8 p 0 = 2)) → refused .REFUSED_STATE 7)

/-- A transfer ends in WALK or DIG when contactor and drive report agree, at a change of the contactor or at a stored
DRIVE_STATUS, and in TRANSFER_FAULT with the coil off and a TRIP entry that tells what was missing when its timer expires
first. In DIG and WALK a reading or a report of another state is a disagreement and ends in TRANSFER_FAULT; there a reading
out of dig with no condition present raises again, a dig reading clears both conditions, a stored arrival leaves them absent in
a dig reading and else as they are, and the exit to DIG is taken exactly when R109 allows it. The details 0 and 10 are the model's choice: log entry 20. -/
def Obligations.TransferEndsAtHandshakeOrTimer : Prop :=
  (∀ s : State, s.contactor = match s.isOn .XFER_DIG_FB, s.isOn .XFER_WALK_FB with
    | true, false => .DIG | false, true => .WALK | false, false => .NEITHER | true, true => .BOTH) ∧
  (∀ (s : State) (i : DI) (d : Nat), (i = .XFER_DIG_FB ∨ i = .XFER_WALK_FB) → (s.input i).timer = some d →
    Answers (.debounceTimerExpiry i) s fun t =>
      let reading := t.contactor
      let code : Int := match reading with | .NEITHER => 1 | .BOTH => 2 | .DIG | .WALK => 3
      (s.walk.transfer = .TO_WALK → (t.walk.transfer = .WALK ↔
          reading = .WALK ∧ s.fb.stale = false ∧ s.fb.config = .WALK) ∧
        (t.walk.transfer = .WALK → t.walk.timer = none ∧ t.walk.step = .ARMED) ∧
        (t.walk.transfer ≠ .WALK → t.walk.transfer = .TO_WALK ∧ t.walk.timer = s.walk.timer)) ∧
      (s.walk.transfer = .TO_DIG → (t.walk.transfer = .DIG ↔
          reading = .DIG ∧ s.fb.stale = false ∧ s.fb.config = .DIG) ∧
        (t.walk.transfer = .DIG → t.walk.timer = none) ∧
        (t.walk.transfer ≠ .DIG → t.walk.transfer = .TO_DIG ∧ t.walk.timer = s.walk.timer)) ∧
      (s.walk.transfer = .TO_WALK ∨ s.walk.transfer = .TO_DIG → t.walk.coil = s.walk.coil ∧
        t.walk.modeReq = s.walk.modeReq ∧ t.brakes = s.brakes ∧ KeepsDrive s t) ∧
      (s.walk.transfer = .DIG → (reading = .DIG → t.walk = s.walk) ∧ (reading ≠ .DIG → ListSound s → Disagreed code t)) ∧
      (s.walk.transfer = .WALK → (reading = .WALK → t.walk = s.walk) ∧ (reading ≠ .WALK → ListSound s → Disagreed code t)) ∧
      (s.walk.transfer = .TRANSFER_FAULT → ListSound s →
        (reading = .DIG → t.walk.timeoutCond = false ∧ t.walk.positionCond = false ∧
          (s.walk.timeoutCond = true → Cleared .TRANSFER_TIMEOUT t) ∧
          (s.walk.positionCond = true → Cleared .TRANSFER_POSITION t) ∧
          (t.walk.transfer = .DIG ↔ FaultMayEnd t) ∧ (t.walk.transfer ≠ .DIG → t.walk.transfer = .TRANSFER_FAULT)) ∧
        (reading ≠ .DIG → s.walk.timeoutCond = true ∨ s.walk.positionCond = true →
          t.walk = s.walk ∧ t.alarms = s.alarms) ∧
        (reading ≠ .DIG → s.walk.timeoutCond = false → s.walk.positionCond = false →
          t.walk.transfer = .TRANSFER_FAULT ∧ t.walk.positionCond = true ∧ Raised .TRANSFER_POSITION code t))) ∧
  (∀ (s : State) (p : List Byte), p.length = 20 → (s.ports.link.inStep = true ∨ 2 ≤ s.ports.link.lock) →
    Answers (.driveStatus p) s fun t =>
      (s.walk.transfer = .TO_WALK → (t.walk.transfer = .WALK ↔ s.contactor = .WALK ∧ t.fb.config = .WALK) ∧
        (t.walk.transfer = .WALK → t.walk.timer = none ∧ t.walk.step = .ARMED ∧ t.walk.coil = s.walk.coil) ∧
        (t.walk.transfer ≠ .WALK → t.walk.transfer = .TO_WALK)) ∧
      (s.walk.transfer = .TO_DIG → (t.walk.transfer = .DIG ↔ s.contactor = .DIG ∧ t.fb.config = .DIG) ∧
        (t.walk.transfer = .DIG → t.walk.timer = none ∧ t.walk.coil = s.walk.coil) ∧
        (t.walk.transfer ≠ .DIG → t.walk.transfer = .TO_DIG)) ∧
      (s.walk.transfer = .DIG → (t.fb.config ≠ .WALK → t.walk.transfer = .DIG) ∧
        (t.fb.config = .WALK → ListSound s → Disagreed 4 t)) ∧
      (s.walk.transfer = .WALK → (t.fb.config ≠ .DIG → t.walk.transfer = .WALK) ∧
        (t.fb.config = .DIG → ListSound s → Disagreed 4 t)) ∧
      (s.walk.transfer = .TRANSFER_FAULT → ListSound s → (t.walk.transfer = .DIG ↔ FaultMayEnd t) ∧
        (t.walk.transfer ≠ .DIG → t.walk.transfer = .TRANSFER_FAULT) ∧
        (TransferCondsSound s →
          t.walk.timeoutCond = (s.walk.timeoutCond && decide (s.contactor ≠ .DIG)) ∧
          t.walk.positionCond = (s.walk.positionCond && decide (s.contactor ≠ .DIG))))) ∧
  (∀ (s : State) (d : Nat), ListSound s → s.walk.timer = some d →
      (s.walk.transfer = .TO_WALK ∨ s.walk.transfer = .TO_DIG) →
      Answers .transferTimerExpiry s fun t =>
        t.walk.transfer = .TRANSFER_FAULT ∧ t.walk.coil = false ∧ t.out.xfer = false ∧ t.walk.modeReq = .DIG ∧
        t.walk.timer = none ∧ t.walk.timeoutCond = decide (s.contactor ≠ .DIG) ∧
        (∃ e ∈ t.alarms.list, e.code = .TRANSFER_TIMEOUT ∧ e.cls = .TRIP ∧ e.detail =
          (if s.walk.transfer = .TO_WALK
            then (if s.contactor = .WALK then 0 else 1) + (if s.driveReport = .WALK then 0 else 2)
            else 10 + (if s.contactor = .DIG then 0 else 1) + (if s.driveReport = .DIG then 0 else 2))) ∧
        KeepsCounting s t ∧ KeepsInputs s t ∧ t.geo = s.geo ∧ KeepsDrive s t ∧ t.ports = s.ports)

/-- The walk unit. The phase and park follow the cam angle, a count of 0 being at park. A reference period re-arms a HELD
step, forms the walk limit and the walk target, starts and stops the lube timer and judges the steering flag; a counted edge
of a cam moves the step state with its latched direction, and has the skew and the steering flag judged; a change of LUBE_OK
starts or stops the lube timer and clears LUBE_LOW. That a HELD cam latches at the edge after the one that leaves the window,
and that the walk output last stored is read until the first period of a new WALK, are the model's choices: log entries 30
and 28. Times are those of log entries 1 and 3. -/
def Obligations.WalkUnitFollowsTheCams : Prop :=
  (∀ s : State,
    ((s.walk.cams.get .L).sync ≠ .SYNCED → s.walkPhase = .UNKNOWN ∧ s.atPark = false) ∧
    ((s.walk.cams.get .L).sync = .SYNCED →
      let θ := (s.chan .CAM_L).count * 3600 / s.par .CAM_CPR
      (s.par .PHASE_1 < s.par .PHASE_2 → s.par .PHASE_2 < s.par .PHASE_3 → s.par .PHASE_3 < s.par .PHASE_4 →
        (θ < s.par .PHASE_1 → s.walkPhase = .SHOES_LOWERING) ∧
        (s.par .PHASE_1 ≤ θ → θ < s.par .PHASE_2 → s.walkPhase = .HOUSE_LIFTING) ∧
        (s.par .PHASE_2 ≤ θ → θ < s.par .PHASE_3 → s.walkPhase = .STEPPING) ∧
        (s.par .PHASE_3 ≤ θ → θ < s.par .PHASE_4 → s.walkPhase = .HOUSE_SETTING) ∧
        (s.par .PHASE_4 ≤ θ → s.walkPhase = .SHOES_RAISING)) ∧
      (s.atPark = true ↔ mag (angDiff θ 0) ≤ s.par .PARK_WINDOW) ∧
      ((s.chan .CAM_L).count = 0 → 0 ≤ s.par .PARK_WINDOW → s.atPark = true))) ∧
  (∀ θ : Int, 0 ≤ θ → θ ≤ 3599 → (mag (angDiff θ 0) ≤ 20 ↔ θ ≤ 20 ∨ 3580 ≤ θ)) ∧
  (∀ (s : State) (d : Nat), PeriodReady s d → Answers .referencePeriod s fun t =>
    let θ := (s.chan .CAM_L).count * 3600 / s.par .CAM_CPR
    let near (left : Int) : Int := max (s.par .CREEP) (min 1000 (1000 * left / s.par .PARK_SPAN))
    (∀ e, s.walk.step = .HELD e → (t.walk.step = .ARMED ∨ t.walk.step = .HELD e) ∧
      (t.walk.step = .ARMED ↔ StepWorks s ∧ mag (s.effectiveDemand .W) ≤ 20)) ∧
    ((∀ e, s.walk.step ≠ .HELD e) → t.walk.step = s.walk.step) ∧
    (s.walk.transfer ≠ .WALK → t.walk.limit = 0) ∧
    (s.walk.transfer = .WALK → ¬ BothSynced s → t.walk.limit = s.par .CREEP) ∧
    (s.walk.transfer = .WALK → BothSynced s →
      (s.walk.stepMode = .CONTINUOUS ∨ t.walk.step = .ARMED → t.walk.limit = 1000) ∧
      (s.walk.stepMode = .SINGLE → t.walk.step = .IN_CYCLE .plus ∨ t.walk.step = .HELD .plus →
        t.walk.limit = near ((3600 - θ) % 3600)) ∧
      (s.walk.stepMode = .SINGLE → t.walk.step = .IN_CYCLE .minus ∨ t.walk.step = .HELD .minus →
        t.walk.limit = near θ)) ∧
    (∀ e, t.walk.step = .HELD e → t.walk.target = 0) ∧
    ((∀ e, t.walk.step ≠ .HELD e) → t.walk.target = bounded (s.effectiveDemand .W) t.walk.limit t.walk.limit) ∧
    (s.walk.transfer = .WALK → (t.walk.steering = true ↔ SteeringHolds t)) ∧
    (s.walk.transfer ≠ .WALK → t.walk.steering = false) ∧
    (s.walk.transfer ≠ .WALK ∨ t.drive.output.DRAG_WALK = 0 → t.walk.lubeTimer = none) ∧
    (s.walk.transfer = .WALK → t.drive.output.DRAG_WALK ≠ 0 → t.walk.lubeTimer =
      if s.isOn .LUBE_OK = false ∧ s.walk.lubeTimer = none ∧ s.walk.lubeCond = false
        then timerEnd (expiryTime s d) (s.par .LUBE_GRACE) else s.walk.lubeTimer) ∧
    t.walk.lubeCond = s.walk.lubeCond ∧ t.walk.cams = s.walk.cams ∧ t.walk.skewCond = s.walk.skewCond) ∧
  (∀ (s : State) (l : CountLine) (d : Nat) (e : Sign), (lineCh l = .CAM_L ∨ lineCh l = .CAM_R) →
    (s.line l).timer = some d → edgeSense s l = some e → ListSound s →
    Answers (.filterTimerExpiry l) s fun t =>
      (lineCh l = .CAM_L → StepWorks s → t.walk.step = stepGoes e s.atPark t.atPark s.walk.step) ∧
      (lineCh l = .CAM_R ∨ ¬ StepWorks s → t.walk.step = s.walk.step) ∧
      (BothSynced s → SkewJudged s t) ∧
      (¬ BothSynced s → t.walk.skewCond = s.walk.skewCond ∧ t.alarms = s.alarms) ∧
      (t.walk.steering = true ↔ SteeringHolds t) ∧ t.walk.cams = s.walk.cams) ∧
  (∀ (s : State) (d : Nat), (s.input .LUBE_OK).timer = some d →
    Answers (.debounceTimerExpiry .LUBE_OK) s fun t =>
      ((s.input .LUBE_OK).raw = true → t.walk.lubeTimer = none ∧ t.walk.lubeCond = false ∧
        (s.walk.lubeCond = true → Cleared .LUBE_LOW t)) ∧
      ((s.input .LUBE_OK).raw = false → t.alarms = s.alarms ∧ t.walk = { s.walk with
        lubeTimer :=
          if s.walk.transfer = .WALK ∧ s.walk.walkOutput ≠ 0 ∧ s.walk.lubeTimer = none ∧ s.walk.lubeCond = false
            then timerEnd (expiryTime s d) (s.par .LUBE_GRACE) else s.walk.lubeTimer }))

/-! ### Drive feedback and power budget -/

/-- The machine power of a feedback record: each channel's estimate, weighed by its share and rounded down by itself,
with the bounds that follow. -/
def Obligations.MachinePowerSumsTheShares : Prop :=
  ∀ s : State,
    let p (c : Channel) : Int := min 2000 (mag (s.fb.chan.get c).speed * mag (s.fb.chan.get c).current / 1000)
    s.machinePower = p .HOIST * s.par .SHARE_H / 1000 + p .DRAG_WALK * s.par .SHARE_DW / 1000
      + p .SWING * s.par .SHARE_S / 1000 ∧
    (s.par .SHARE_H ≤ 1000 → s.par .SHARE_DW ≤ 1000 → s.par .SHARE_S ≤ 1000 → 0 ≤ s.par .SHARE_H →
      0 ≤ s.par .SHARE_DW → 0 ≤ s.par .SHARE_S → 0 ≤ s.machinePower ∧ s.machinePower ≤ 6000 ∧
      (s.par .SHARE_H + s.par .SHARE_DW + s.par .SHARE_S ≤ 1000 → s.machinePower ≤ 2000))

/-- A DRIVE_STATUS in step, and the one that locks the link, is stored with its values clamped and restarts the miss
timer; one before the lock only counts, and a frame of another length is dropped, the receiver in HUNT. At a stored arrival a current at the
threshold proves a brake unless a TRIP covers it, a ready flag that is off closes the active brake, and a fault code that
changes raises or clears its drive fault, which inhibits the motions of its channel. -/
def Obligations.DriveStatusIsStoredInStep : Prop :=
  ∀ (s : State) (p : List Byte),
    let next := timerEnd s.time (s.par .DRIVE_PERIOD * 3 / 2)
    let value (i : Nat) : Int := max (-2000) (min 2000 (s16 p i))
    let heard := s.setReceiver .DRIVE .HUNT
    (p.length ≠ 20 → exec (.driveStatus p) s = .next heard) ∧
    (p.length = 20 → s.ports.link.inStep = false → s.ports.link.lock < 2 →
      exec (.driveStatus p) s = .next (heard.withPorts { heard.ports with
        link := { s.ports.link with lock := s.ports.link.lock + 1, timer := next } })) ∧
    (p.length = 20 → (s.ports.link.inStep = true ∨ 2 ≤ s.ports.link.lock) → Answers (.driveStatus p) s fun t =>
      t.fb = { chan := ⟨⟨value 0, value 2, u8 p 4 % 2 == 1, u8 p 5⟩, ⟨value 6, value 8, u8 p 10 % 2 == 1, u8 p 11⟩,
                 ⟨value 12, value 14, u8 p 16 % 2 == 1, u8 p 17⟩⟩
               config := if u8 p 18 = 1 then .DIG else if u8 p 18 = 2 then .WALK else .NONE
               lineDip := u8 p 19 % 2 == 1
               stale := false } ∧
      t.ports.link = (if s.ports.link.inStep then { s.ports.link with miss := 0, timer := next }
        else ⟨true, 0, 0, next, false⟩) ∧
      t.swing.load = (if s.par .LOAD_ON ≤ value 2 then .LOADED else if value 2 ≤ s.par .LOAD_OFF then .EMPTY
        else s.swing.load) ∧
      t.time = s.time ∧ KeepsCounting s t ∧ KeepsInputs s t ∧ t.geo = s.geo ∧ t.env = s.env ∧ t.drive = s.drive ∧
      t.ports.authority = s.ports.authority ∧ t.ports.interlock = s.ports.interlock ∧ t.ports.demand = s.ports.demand ∧
      (ListSound s → ∀ m, let f := t.fb.chan.get (channelOf m)
        ((s.brake m).state = .PROVING → f.ready = true → t.tripInhibit m = false →
          (s.par (proofParam m) ≤ f.current →
            t.brake m = { s.brake m with state := .OPENING, timer := timerEnd s.time (s.par .OPEN_TIME) } ∧
            t.out.coil.get m = true) ∧
          (f.current < s.par (proofParam m) → t.brake m = s.brake m)) ∧
        (f.ready = false → activeBrake s.walk.transfer (channelOf m) = some m →
          ((s.brake m).state = .PROVING → Resting m t) ∧
          ((s.brake m).state = .OPENING ∨ (s.brake m).state = .RELEASED → Resting m t ∧
            (t.brake m).state = if s.feedbackOn m then .CLOSING else .SET))) ∧
      (∀ c, let before := (s.fb.chan.get c).fault
        let after := (t.fb.chan.get c).fault
        (after ≠ before → after ≠ 0 → ListSound s →
          Raised (driveFaultCode c) after t ∧ ∀ m, channelOf m = c → t.tripInhibit m = true) ∧
        (after ≠ before → after = 0 → Cleared (driveFaultCode c) t) ∧
        (after = before → Untouched (driveFaultCode c) s t)))

/-- At a stored arrival at most one curtail level moves, by at most one step: down for the first channel in
CURTAIL_ORDER above its floor when the power exceeds the budget, up for the last below 1000 when it lies below the band,
and none within it. LINE_DIP follows the line-dip flag and POWER_CURTAIL the levels below 1000: each is raised when it
appears, with the power and with the lowest level, cleared when it goes, and else left alone. -/
def Obligations.CurtailLevelsMoveByOneStep : Prop :=
  (∀ s : State,
    let B := if s.fb.lineDip then s.par .BUDGET_DIP else s.par .BUDGET_NORMAL
    let order := curtailOrderOf (s.par .CURTAIL_ORDER)
    (B < s.machinePower →
      (adjustLevels s).budget.level =
        match order.find? fun c => decide (s.par (floorParam c) < s.budget.level.get c) with
        | some c => s.budget.level.set c
            (max (s.par (floorParam c)) (s.budget.level.get c - s.par .CURTAIL_STEP))
        | none => s.budget.level) ∧
    (s.machinePower ≤ B → B - s.par .CURTAIL_BAND ≤ s.machinePower → adjustLevels s = s) ∧
    (s.machinePower ≤ B → s.machinePower < B - s.par .CURTAIL_BAND →
      (adjustLevels s).budget.level =
        match order.reverse.find? fun c => decide (s.budget.level.get c < 1000) with
        | some c => s.budget.level.set c (min 1000 (s.budget.level.get c + s.par .CURTAIL_STEP))
        | none => s.budget.level)) ∧
  (∀ (s : State) (p : List Byte), p.length = 20 → (s.ports.link.inStep = true ∨ 2 ≤ s.ports.link.lock) →
    Answers (.driveStatus p) s fun t =>
      t.budget.level = (adjustLevels (s.withFb t.fb)).budget.level ∧
      t.budget.dip = t.fb.lineDip ∧ (t.budget.curtail = channels.any fun c => decide (t.budget.level.get c < 1000)) ∧
      (s.budget.dip = false → t.budget.dip = true → s.alarms.list.length ≤ 26 → Raised .LINE_DIP t.machinePower t) ∧
      (s.budget.dip = true → t.budget.dip = false → Cleared .LINE_DIP t) ∧
      (s.budget.dip = t.budget.dip → Untouched .LINE_DIP s t) ∧
      (s.budget.curtail = false → t.budget.curtail = true → s.alarms.list.length ≤ 26 →
        Raised .POWER_CURTAIL (min t.budget.level.HOIST (min t.budget.level.DRAG_WALK t.budget.level.SWING)) t) ∧
      (s.budget.curtail = true → t.budget.curtail = false → Cleared .POWER_CURTAIL t) ∧
      (s.budget.curtail = t.budget.curtail → Untouched .POWER_CURTAIL s t)) ∧
  (∀ (s : State) (p : List Byte), (p.length ≠ 20 ∨ (s.ports.link.inStep = false ∧ s.ports.link.lock < 2)) →
    Answers (.driveStatus p) s fun t => t.budget = s.budget)

/-- Three expiries of the miss timer in step lose the link: the record is stale, DRIVE_LINK_LOST trips all four motions
and no brake stays at work; fewer only count, and an expiry before the lock starts the count afresh. Times are those of
log entries 1 and 3. -/
def Obligations.MissedStatusLosesTheLink : Prop :=
  ∀ (s : State) (d : Nat), s.ports.link.timer = some d →
    (s.ports.link.inStep = false → exec .missTimerExpiry s = .next ((s.withTime (expiryTime s d)).withPorts
      { s.ports with link := { s.ports.link with lock := 0, timer := none } })) ∧
    (s.ports.link.inStep = true → s.ports.link.miss < 2 →
      exec .missTimerExpiry s = .next ((s.withTime (expiryTime s d)).withPorts { s.ports with link :=
        { s.ports.link with miss := s.ports.link.miss + 1
                            timer := timerEnd (expiryTime s d) (s.par .DRIVE_PERIOD * 3 / 2) } })) ∧
    (s.ports.link.inStep = true → 2 ≤ s.ports.link.miss → ListSound s → CoilsFollowBrakes s → TripHoldsBrakes s →
      Answers .missTimerExpiry s fun t =>
        t.ports.link = ⟨false, 0, 0, none, true⟩ ∧ t.fb = { s.fb with stale := true } ∧ Raised .DRIVE_LINK_LOST 0 t ∧
        (∀ m, t.tripInhibit m = true ∧ isWorking (t.brake m).state = false ∧ t.out.coil.get m = false) ∧
        KeepsCounting s t ∧ KeepsInputs s t ∧ t.geo = s.geo ∧ t.drive = s.drive ∧ t.budget = s.budget)

/-! ### Alarms -/

/-- What a raise, with the scope of its code or with a given one, and a clear make of the list: a new entry at the end, a re-raise in place with the scope grown, an eviction by class or the OVERFLOW marker
when the list is full, and the four cases of a clear. A raise that is listed ends the silence and starts the envelope again
(R143, R147); one of class TRIP brings the motions of its scope to rest and triggers an armed recorder (R132, R133, R153), one
of class STOP takes the motions it newly covers out of PROVING. Both have the demands judged and touch nothing else. That a
TRIP or STOP raise that finds nothing to evict, which cannot come about, sets OVERFLOW is the model's choice: log entry 23; so
are the 48 bits of the record's time: log entry 25. -/
def Obligations.RaiseAndClearKeepTheListRules : Prop :=
  ∀ (s : State) (c : AlarmCode) (scope : MotionSet) (detail : Int),
    let entry : AlarmEntry := ⟨c, s.codeClass c, scope, .ACTIVE_UNACK, s.ms, s.ms, 1, detail⟩
    let raised := raiseScoped c scope detail s
    let goes (e : AlarmEntry) : Bool := match s.codeClass c with
      | .TRIP | .STOP => e.cls == .WARN || e.cls == .INFO
      | .WARN => (e.cls == .WARN || e.cls == .INFO) && e.state != .ACTIVE_UNACK
      | .INFO => e.cls == .INFO && e.state != .ACTIVE_UNACK
    raise c detail s = raiseScoped c (s.codeScope c) detail s ∧
    (s.listed c = false → s.alarms.list.length < 32 →
      raised.alarms.list = s.alarms.list ++ [entry]) ∧
    (s.listed c = false → 32 ≤ s.alarms.list.length → s.alarms.list.any goes = true →
      raised.alarms.list = s.alarms.list.eraseP goes ++ [entry]) ∧
    (s.listed c = false → 32 ≤ s.alarms.list.length → s.alarms.list.any goes = false →
      raised.alarms = { s.alarms with overflow := true } ∧ raised.trend = s.trend ∧ raised.brakes = s.brakes) ∧
    (s.listed c = true → (s.alarms.list.map fun e => e.code).Nodup →
      raised.alarms.list = s.alarms.list.map fun e =>
        if e.code = c then { e with
          scope := e.scope.union scope, state := .ACTIVE_UNACK, last := s.ms
          count := min 255 (e.count + 1), detail := detail } else e) ∧
    (s.listed c = true ∨ s.alarms.list.length < 32 ∨ s.alarms.list.any goes = true →
      raised.alarms.silence = false ∧ raised.alarms.envLevel = 1 ∧ raised.alarms.overflow = s.alarms.overflow ∧
      raised.alarms.envTimer = if s.par .ENVELOPE_ON = 1 then timerEnd s.time (s.par .ENVELOPE_STEP) else none) ∧
    (ListSound s → s.codeClass c = .TRIP →
      (s.trend.state = .ARMED → raised.trend.state = .POST_TRIGGER ∧ raised.trend.post = 0 ∧
        raised.trend.timer = timerEnd s.time (s.par .TREND_FAST) ∧
        ∃ r, raised.trend.ring.getLast? = some r ∧ r.marker = some c.number ∧ r.highest = some .TRIP ∧
          r.time = BitVec.ofNat 48 (s.time / 2000)) ∧
      (s.trend.state ≠ .ARMED → raised.trend = s.trend) ∧
      (∀ m, scope.get m = true → raised.tripInhibit m = true ∧
        (TripHoldsBrakes s → CoilsFollowBrakes s → Resting m raised)) ∧
      (∀ m, scope.get m = false → raised.brake m = s.brake m)) ∧
    (ListSound s → s.codeClass c ≠ .TRIP → raised.trend = s.trend ∧
      ∀ m, (s.brake m).state ≠ .PROVING → raised.brake m = s.brake m) ∧
    (ListSound s → s.codeClass c = .STOP → ∀ m, scope.get m = true → raised.stopInhibit m = true ∧
      (s.stopInhibit m = false → (raised.brake m).state ≠ .PROVING)) ∧
    ((clear c s).alarms = { s.alarms with
      list := s.alarms.list.filterMap fun e =>
        if e.code = c then
          match e.state with
          | .ACTIVE_UNACK => some { e with state := .CLEARED_UNACK, last := s.ms }
          | .ACTIVE_ACK =>
            if e.cls = .TRIP ∨ e.cls = .STOP then some { e with state := .CLEARED_LATCHED, last := s.ms } else none
          | .CLEARED_UNACK | .CLEARED_LATCHED => some e
        else some e }) ∧
    (∀ t, (t = raised ∨ t = clear c s) → Annunciated t ∧ t.time = s.time ∧ KeepsCounting s t ∧ KeepsInputs s t ∧
      t.geo = s.geo ∧ t.env = s.env ∧ KeepsDrive s t ∧ t.ports = s.ports ∧ t.pending = s.pending)

/-- A full list always holds an entry that a TRIP or STOP raise may remove: at most 24 of its codes can latch. -/
def Obligations.RoomForEveryTripOrStop : Prop :=
  ∀ s : State, ListSound s → s.alarms.list.length = 32 → ∃ e ∈ s.alarms.list, e.cls = .WARN ∨ e.cls = .INFO

/-- An ALARM_ACK acknowledges the entry it names, or every entry for 0, counts those changed, and touches neither
silence nor envelope nor any inhibit; a code above 45 and a SERVICE request with LOCAL_KEY off are refused. -/
def Obligations.AlarmAckActsOnTheEntriesNamed : Prop :=
  ∀ (s : State) (m : Master) (p : List Byte), ListSound s → s.ports.zeroPassWait = s.waiting.nonEmpty →
    (m = .SERVICE → s.ports.serviceLost = false) → (s.port m.port).tx.length < 8 → p.length = 1 →
    let changes (e : AlarmEntry) : Bool := (u8 p 0 == 0 || e.code.number == u8 p 0) &&
      (e.state == .ACTIVE_UNACK || e.state == .CLEARED_UNACK)
    (u8 p 0 ≤ 45 → (m = .SERVICE → s.isOn .LOCAL_KEY = true) → Answers (.alarmAck m p) s fun t =>
      (t.alarms.list = s.alarms.list.filterMap fun e =>
        if changes e then
          if e.state = .ACTIVE_UNACK then some { e with state := .ACTIVE_ACK, last := s.ms }
          else if e.cls = .TRIP ∨ e.cls = .STOP then some { e with state := .CLEARED_LATCHED, last := s.ms } else none
        else some e) ∧
      Sends m.port (.reply 0x20 .OK (s.alarms.list.filter changes).length) s t ∧
      t.alarms.silence = s.alarms.silence ∧ t.alarms.envLevel = s.alarms.envLevel ∧
      t.alarms.overflow = s.alarms.overflow ∧
      (∀ x, t.tripInhibit x = s.tripInhibit x ∧ t.stopInhibit x = s.stopInhibit x) ∧
      KeepsCounting s t ∧ KeepsInputs s t ∧ KeepsPositions s t ∧ KeepsDrive s t ∧ t.brakes = s.brakes ∧
      KeepsRecords s t ∧ KeepsAuthority s t) ∧
    (45 < u8 p 0 → Answers (.alarmAck m p) s fun t =>
      Sends m.port (.reply 0x20 .RANGE 0) s t ∧ t.alarms = s.alarms) ∧
    (u8 p 0 ≤ 45 → m = .SERVICE → s.isOn .LOCAL_KEY = false → Answers (.alarmAck m p) s fun t =>
      Sends m.port (.reply 0x20 .NOT_HOLDER 0) s t ∧ t.alarms = s.alarms)

/-- ALARM_SILENCE sets the silence flag, which holds the horn demand off and touches neither the buzzer nor the beacons,
until the next entry to ACTIVE_UNACK clears it (R143). -/
def Obligations.AlarmSilenceHoldsTheHornOff : Prop :=
  (∀ (s : State) (m : Master) (p : List Byte), (s.port m.port).tx.length < 8 → p.length = 0 →
    (m = .SERVICE → s.isOn .LOCAL_KEY = true) → Answers (.alarmSilence m p) s fun t =>
      t.alarms.silence = true ∧ t.horn.demand = false ∧ Sends m.port (.reply 0x21 .OK 0) s t ∧
      (m = .CAB → t.alarms.list = s.alarms.list)) ∧
  (∀ s : State, s.alarms.silence = true → s.annDemand .HORN = false) ∧
  (∀ (s : State) (v : Bool) (o : AnnOutput), o ≠ .HORN →
    (s.withAlarms { s.alarms with silence := v }).annDemand o = s.annDemand o) ∧
  (∀ (s : State) (c : AlarmCode) (detail : Int),
    ((s.listed c = true ∨ (makeRoom (s.codeClass c) s.alarms.list).isSome = true) →
      (raise c detail s).alarms.silence = false) ∧
    (s.listed c = false → makeRoom (s.codeClass c) s.alarms.list = none →
      (raise c detail s).alarms.silence = s.alarms.silence))

/-- ALARM_RESET removes every latched entry that is cleared and acknowledged and whose brakes rest, and keeps the other
latching entries; the inhibits that end arm their interlocks, faulted brakes whose entry goes are SET, TRANSFER_FAULT ends
when R109 allows it, DRIVE_ENABLE follows, and OVERFLOW is cleared. -/
def Obligations.AlarmResetRemovesWhatHasCleared : Prop :=
  ∀ (s : State) (m : Master) (p : List Byte), ListSound s → s.alarms.list.length < 32 →
    (m = .SERVICE → s.ports.serviceLost = false) → (s.port m.port).tx.length < 8 → p.length = 0 →
    let rests (e : AlarmEntry) : Prop :=
      ∀ x, e.scope.get x = true → (s.brake x).state = .SET ∨ (s.brake x).state = .FAULT
    ((m = .SERVICE → s.isOn .LOCAL_KEY = true) → Answers (.alarmReset m p) s fun t =>
      (∀ e ∈ s.alarms.list, e.cls.latches = true → e.state = .CLEARED_LATCHED → rests e → t.listed e.code = false) ∧
      (∀ e ∈ s.alarms.list, e.cls.latches = true → ¬ (e.state = .CLEARED_LATCHED ∧ rests e) → e ∈ t.alarms.list) ∧
      t.alarms.overflow = false ∧
      Sends m.port (.reply 0x22 .OK (s.alarms.list.filter s.resettable).length) s t ∧
      (∀ x, (s.tripInhibit x = true ∧ t.tripInhibit x = false) ∨ (s.stopInhibit x = true ∧ t.stopInhibit x = false) →
        t.ports.interlock.get x = true) ∧
      (∀ x, (s.brake x).state = .FAULT → s.listed (brakeFaultCode x) = true → t.listed (brakeFaultCode x) = false →
        (t.brake x).state = .SET) ∧
      (s.walk.transfer = .TRANSFER_FAULT → s.mayLeaveTransferFault = false →
        (t.walk.transfer = .DIG ↔ FaultMayEnd t)) ∧
      DriveEnableSound t ∧ KeepsCounting s t ∧ KeepsInputs s t ∧ t.geo = s.geo ∧ t.env = s.env ∧ KeepsDrive s t ∧
      t.ports.authority = s.ports.authority ∧ t.ports.demand = s.ports.demand ∧ t.ports.link = s.ports.link) ∧
    (m = .SERVICE → s.isOn .LOCAL_KEY = false → Answers (.alarmReset m p) s fun t =>
      Sends m.port (.reply 0x22 .NOT_HOLDER 0) s t ∧ t.alarms = s.alarms)

/-- ALARM_READ answers at either port and whatever LOCAL_KEY with a page of the list as it stands: length, counter,
marker and up to 8 entries from the start index, and it changes no entry and not the counter (R149). That a SERVICE read
that clears SERVICE_LINK_LOST shows the list and the counter after that clear is the model's choice: log entry 6. -/
def Obligations.AlarmReadShowsThePage : Prop :=
  ∀ (s : State) (m : Master) (p : List Byte), (s.port m.port).tx.length < 8 → p.length = 1 →
    Answers (.alarmRead m p) s fun t =>
      let page := (t.alarms.list.drop (u8 p 0)).take 8
      Sends m.port (.alarmPage t.alarms.list.length t.alarms.counter t.alarms.overflow page) s t ∧
      (u8 p 0 < t.alarms.list.length → page.length = min 8 (t.alarms.list.length - u8 p 0)) ∧
      (t.alarms.list.length ≤ u8 p 0 → page = []) ∧
      (m = .CAB ∨ s.ports.serviceLost = false → t.alarms = s.alarms) ∧
      t.brakes = s.brakes ∧ KeepsCounting s t ∧ KeepsInputs s t ∧ KeepsPositions s t ∧ KeepsDrive s t ∧ KeepsRecords s t

/-- The pattern step starts at 0 with a timer of 125 ms at the end of reset and advances at each expiry, back to 0 at
PATTERN_PERIOD; a write of PATTERN_PERIOD and a profile load leave the step (R145). Times are those of log entries 1 and
3. -/
def Obligations.PatternStepRunsFreely : Prop :=
  (∀ s : State, Answers .reset s fun t => t.alarms.step = 0 ∧ t.alarms.patternTimer = timerEnd 0 125) ∧
  (∀ (s : State) (d : Nat), s.alarms.patternTimer = some d → Answers .patternTimerExpiry s fun t =>
    t.alarms.step = (if (s.alarms.step : Int) + 1 < s.par .PATTERN_PERIOD then s.alarms.step + 1 else 0) ∧
    (s.par .PATTERN_PERIOD ≤ s.alarms.step → t.alarms.step = 0) ∧
    t.alarms.patternTimer = timerEnd (expiryTime s d) 125 ∧ t.alarms.list = s.alarms.list ∧
    KeepsCounting s t ∧ KeepsInputs s t ∧ KeepsPositions s t ∧ KeepsDrive s t ∧ KeepsBrakesAndWalk s t ∧
    KeepsRecords s t ∧ t.ports = s.ports) ∧
  (∀ (s : State) (v : BitVec 32), Answers (.maskWrite .PATTERN_PERIOD v) s fun t =>
    t.alarms.step = s.alarms.step ∧ t.alarms.patternTimer = s.alarms.patternTimer) ∧
  (∀ (s : State) (p : List Byte), Answers (.profileLoad p) s fun t =>
    t.alarms.step = s.alarms.step ∧ t.alarms.patternTimer = s.alarms.patternTimer)

/-- The envelope level rises by one at each expiry of its timer, which stops at level 8; the horn line is on for (18 -
2k)/16 of each period of 500 microseconds, at the level taken at the period's start. Times are those of log entries 1
and 3. -/
def Obligations.EnvelopeAndHornSwitching : Prop :=
  ∀ (s : State) (d : Nat),
    (s.alarms.envTimer = some d → exec .envelopeTimerExpiry s = .next ((s.withTime (expiryTime s d)).withAlarms
      { s.alarms with
        envLevel := s.alarms.envLevel + 1
        envTimer := if s.alarms.envLevel + 1 < 8 then timerEnd (expiryTime s d) (s.par .ENVELOPE_STEP) else none })) ∧
    (s.horn.timer = some d →
      (s.out.horn = true → 1 < s.horn.level → exec .hornSwitchingPeriod s =
        .next (((s.withTime (expiryTime s d)).withOut { s.out with horn := false }).withHorn
          { s.horn with timer := some (expiryTime s d + (1000 - 125 * (9 - s.horn.level))) })) ∧
      (s.out.horn = false ∨ s.horn.level ≤ 1 → exec .hornSwitchingPeriod s =
        .next (((s.withTime (expiryTime s d)).withOut { s.out with horn := true }).withHorn
          ⟨true, s.alarms.envLevel, some (expiryTime s d + 125 * (9 - s.alarms.envLevel))⟩)))

/-! ### Trend recorder -/

/-- The recorder's timers take a record of the machine as it stands; in POST_TRIGGER they count, and the ring freezes
with TREND_FROZEN when the count reaches TREND_POST. The 48 bits of the time are the model's choice: log entry 25. Times
are those of log entries 1 and 3. -/
def Obligations.TrendTimersTakeRecords : Prop :=
  ∀ (s : State) (d : Nat), ListSound s → s.trend.timer = some d →
    let now := expiryTime s d
    let taken (t : State) : Prop := ∃ r, t.trend.ring.getLast? = some r ∧ r.time = BitVec.ofNat 48 (now / 2000) ∧
      r.status = s.geo.record.status ∧ r.lh = s.geo.record.lh ∧ r.ld = s.geo.record.ld ∧
      r.output = s.drive.output ∧ r.stale = s.fb.stale ∧ (∀ m, r.brakes.get m = (s.brake m).state) ∧
      r.transfer = s.walk.transfer ∧ r.highest = highestClass s.alarms.list ∧
      (r.marker = none ∨ ∃ o, s.trend.ring.getLast? = some o ∧ o.time = r.time ∧ r.marker = o.marker) ∧
      ((∀ o, s.trend.ring.getLast? = some o → o.time ≠ r.time) →
        t.trend.ring = (if 256 ≤ s.trend.ring.length then s.trend.ring.drop 1 else s.trend.ring) ++ [r])
    (s.trend.state = .ARMED → Answers .trendSlowExpiry s fun t =>
      taken t ∧ t.trend.state = .ARMED ∧ t.trend.post = s.trend.post ∧
      t.trend.timer = timerEnd now (s.par .TREND_SLOW) ∧ t = (s.withTime now).withTrend t.trend) ∧
    (s.trend.state = .POST_TRIGGER → (s.trend.post : Int) + 1 < s.par .TREND_POST → Answers .trendFastExpiry s fun t =>
      taken t ∧ t.trend.state = .POST_TRIGGER ∧ t.trend.post = s.trend.post + 1 ∧
      t.trend.timer = timerEnd now (s.par .TREND_FAST) ∧ t = (s.withTime now).withTrend t.trend) ∧
    (s.trend.state = .POST_TRIGGER → s.par .TREND_POST ≤ (s.trend.post : Int) + 1 → Answers .trendFastExpiry s fun t =>
      taken t ∧ t.trend.state = .FROZEN ∧ t.trend.timer = none ∧ t.trend.frozen = true ∧
      (HasRoomFor .TREND_FROZEN s → Raised .TREND_FROZEN ((t.triggerIndex.getD 0 : Nat) : Int) t) ∧
      KeepsCounting s t ∧ KeepsInputs s t ∧ KeepsPositions s t ∧ KeepsDrive s t ∧ t.brakes = s.brakes ∧
      t.store = s.store ∧ t.ports = s.ports)

/-- TREND_TRIGGER triggers an ARMED recorder with marker 0 and is refused with detail 1 in POST_TRIGGER and 2 in FROZEN;
a trigger outside ARMED changes nothing, and the first of two triggers gives the marker (R156). The 48 bits of the record's
time are the model's choice: log entry 25. -/
def Obligations.TrendTriggerTriggersOnce : Prop :=
  (∀ (s : State) (p : List Byte), (s.port .SERVICE).tx.length < 8 → p.length = 0 →
    (s.trend.state = .ARMED → Answers (.trendTrigger p) s fun t =>
      t.trend.state = .POST_TRIGGER ∧ t.trend.post = 0 ∧ t.trend.timer = timerEnd s.time (s.par .TREND_FAST) ∧
      (∃ r, t.trend.ring.getLast? = some r ∧ r.marker = some 0 ∧ r.time = BitVec.ofNat 48 (s.time / 2000)) ∧
      Sends .SERVICE (.reply 0x61 .OK 0) s t ∧ KeepsCounting s t ∧ KeepsPositions s t ∧ t.brakes = s.brakes) ∧
    (s.trend.state = .POST_TRIGGER → Answers (.trendTrigger p) s fun t =>
      Sends .SERVICE (.reply 0x61 .REFUSED_STATE 1) s t ∧ KeepsRecords s t ∧ t.brakes = s.brakes ∧ KeepsCounting s t ∧
      KeepsInputs s t ∧ KeepsPositions s t ∧ KeepsDrive s t ∧ KeepsAuthority s t) ∧
    (s.trend.state = .FROZEN → Answers (.trendTrigger p) s fun t =>
      Sends .SERVICE (.reply 0x61 .REFUSED_STATE 2) s t ∧ KeepsRecords s t ∧ t.brakes = s.brakes ∧ KeepsCounting s t ∧
      KeepsInputs s t ∧ KeepsPositions s t ∧ KeepsDrive s t ∧ KeepsAuthority s t)) ∧
  (∀ (s : State) (n : Nat), (s.trend.state ≠ .ARMED → trigger n s = s) ∧
    (s.trend.state = .ARMED → (trigger n s).trend.state = .POST_TRIGGER ∧
      ∃ r, (trigger n s).trend.ring.getLast? = some r ∧ r.marker = some n))

/-- TREND_REARM empties the ring and arms the recorder in every state, and TREND_READ answers a page of up to 6 records
and changes nothing in the recorder. -/
def Obligations.TrendRearmAndReadActInEveryState : Prop :=
  ∀ (s : State) (p : List Byte), (s.port .SERVICE).tx.length < 8 →
    (p.length = 0 → Answers (.trendRearm p) s fun t =>
      t.trend = ⟨[], .ARMED, timerEnd s.time (s.par .TREND_SLOW), 0, false⟩ ∧
      Sends .SERVICE (.reply 0x62 .OK s.trend.ring.length) s t ∧ KeepsCounting s t ∧ KeepsPositions s t ∧
      KeepsDrive s t ∧ t.brakes = s.brakes ∧ t.store = s.store ∧ KeepsAuthority s t) ∧
    (p.length = 2 → 1 ≤ u8 p 1 → u8 p 1 ≤ 6 → Answers (.trendRead p) s fun t =>
      let records := (s.trend.ring.drop (u8 p 0)).take (u8 p 1)
      Sends .SERVICE (.trendPage s.trend.state s.trend.ring.length s.triggerIndex records) s t ∧
      records.length = min (u8 p 1) (s.trend.ring.length - u8 p 0) ∧ t.trend = s.trend ∧ t.brakes = s.brakes) ∧
    (p.length = 2 → (u8 p 1 = 0 ∨ 6 < u8 p 1) → Answers (.trendRead p) s fun t =>
      Sends .SERVICE (.reply 0x60 .RANGE 0) s t ∧ t.trend = s.trend)

/-! ### Ports and authority -/

/-- A DEMAND of length 9 fills its master's record with the clamped values, or with zeros when ENABLE is clear, restarts
the hold, and disarms the sender's interlocks whose value is near zero; one of another length leaves the records. Of the
ports' lines both return the receiver to HUNT only. -/
def Obligations.DemandFillsTheRecordOfItsMaster : Prop :=
  ∀ (s : State) (m : Master) (p : List Byte), ListSound s →
    let value (i : Nat) : Int := if u8 p 8 % 2 = 1 then max (-1000) (min 1000 (s16 p i)) else 0
    let values : PerMotion Int := ⟨value 0, value 2, value 4, value 6⟩
    (p.length = 9 → Answers (.demand m p) s fun t =>
      t.ports.demand = s.ports.demand.set m ⟨values, timerEnd s.time (s.par .DEMAND_HOLD), false⟩ ∧
      t.ports.authority = s.ports.authority ∧
      (∀ x, t.ports.interlock.get x =
        (s.ports.interlock.get x && !(s.ports.authority.get x == m && decide (mag (values.get x) ≤ 20)))) ∧
      (m = .CAB → t.ports.cabContact = true ∧ t.ports.cabLost = false) ∧
      t.ports.zeroPassWait = t.waiting.nonEmpty ∧ t.ports.line = (s.setReceiver m.port .HUNT).ports.line ∧
      t.time = s.time ∧ KeepsCounting s t ∧ KeepsInputs s t ∧ KeepsPositions s t ∧ KeepsDrive s t ∧
      t.brakes = s.brakes ∧ KeepsRecords s t ∧ t.ports.link = s.ports.link) ∧
    (p.length ≠ 9 → Answers (.demand m p) s fun t =>
      KeepsAuthority s t ∧ t.ports.line = (s.setReceiver m.port .HUNT).ports.line) ∧
    (∀ x, s.effectiveDemand x = if s.ports.interlock.get x then 0
      else if (s.ports.demand.get (s.ports.authority.get x)).expired then 0
      else (s.ports.demand.get (s.ports.authority.get x)).value.get x)

/-- The expiry of a hold timer takes its master's demands away, and raises CAB_LINK_LOST for the motions of a CAB that
has been heard; the expiry of the SERVICE timer gives every motion back to CAB and raises SERVICE_LINK_LOST for them. -/
def Obligations.LinkExpiriesTakeTheDemandsAway : Prop :=
  ∀ (s : State) (m : Master) (d : Nat), ListSound s →
    ((s.ports.demand.get m).timer = some d → Answers (.demandHoldExpiry m) s fun t =>
      t.ports.demand = s.ports.demand.set m { s.ports.demand.get m with timer := none, expired := true } ∧
      (∀ x, s.ports.authority.get x = m → t.effectiveDemand x = 0) ∧
      t.ports.cabLost = (if m = .CAB ∧ s.ports.cabContact = true then true else s.ports.cabLost) ∧
      (m = .CAB → s.ports.cabContact = true → Raised .CAB_LINK_LOST (s.heldBy .CAB).code t ∧
        ∀ x, s.ports.authority.get x = .CAB → t.stopInhibit x = true) ∧
      t.ports.authority = s.ports.authority ∧ t.ports.interlock = s.ports.interlock ∧
      KeepsCounting s t ∧ KeepsInputs s t ∧ KeepsDrive s t) ∧
    (s.ports.serviceTimer = some d → Answers .serviceTimerExpiry s fun t =>
      (∀ x, t.ports.authority.get x = .CAB) ∧ t.ports.serviceTimer = none ∧ t.ports.serviceLost = true ∧
      (∀ x, t.ports.interlock.get x = (s.ports.interlock.get x || s.ports.authority.get x == .SERVICE)) ∧
      Raised .SERVICE_LINK_LOST (s.heldBy .SERVICE).code t ∧
      (∀ x, s.ports.authority.get x = .SERVICE → t.stopInhibit x = true) ∧
      t.ports.demand = s.ports.demand ∧ KeepsCounting s t ∧ KeepsInputs s t ∧ KeepsDrive s t)

/-- A CLAIM with LOCAL_KEY on and every named brake SET gives the named motions to SERVICE and arms the interlocks of
those that change holder; a RELEASE gives the named motions back in any state; both answer with the set SERVICE then
holds. -/
def Obligations.ClaimAndReleaseMoveAuthority : Prop :=
  ∀ (s : State) (p : List Byte), ListSound s → (s.port .SERVICE).tx.length < 8 → p.length = 1 →
    let named := MotionSet.ofCode (u8 p 0)
    let inSet := 1 ≤ u8 p 0 ∧ u8 p 0 ≤ 15
    let ready := ∀ x, named.get x = true → (s.brake x).state = .SET
    (inSet → s.isOn .LOCAL_KEY = true → ready → Answers (.claim p) s fun t =>
      (∀ x, t.ports.authority.get x = if named.get x then .SERVICE else s.ports.authority.get x) ∧
      (∀ x, t.ports.interlock.get x =
        (s.ports.interlock.get x || (named.get x && s.ports.authority.get x == .CAB))) ∧
      ((∀ x, s.ports.authority.get x = .CAB) → t.ports.serviceTimer = timerEnd s.time (s.par .SERVICE_TIMEOUT)) ∧
      Sends .SERVICE (.reply 0x30 .OK (t.heldBy .SERVICE).code) s t ∧
      t.ports.demand = s.ports.demand ∧ t.ports.link = s.ports.link ∧ t.brakes = s.brakes ∧ KeepsCounting s t ∧
      KeepsInputs s t ∧ KeepsPositions s t ∧ KeepsDrive s t ∧ KeepsRecords s t) ∧
    (¬ inSet → Answers (.claim p) s fun t => Sends .SERVICE (.reply 0x30 .RANGE 0) s t ∧ KeepsAuthority s t) ∧
    (inSet → s.isOn .LOCAL_KEY = false → Answers (.claim p) s fun t =>
      Sends .SERVICE (.reply 0x30 .REFUSED_STATE 1) s t ∧ KeepsAuthority s t) ∧
    (inSet → s.isOn .LOCAL_KEY = true → ¬ ready → Answers (.claim p) s fun t =>
      Sends .SERVICE (.reply 0x30 .REFUSED_STATE 2) s t ∧ KeepsAuthority s t) ∧
    (inSet → Answers (.release p) s fun t =>
      (∀ x, t.ports.authority.get x = if named.get x then .CAB else s.ports.authority.get x) ∧
      (∀ x, t.ports.interlock.get x =
        (s.ports.interlock.get x || (named.get x && s.ports.authority.get x == .SERVICE))) ∧
      ((∀ x, t.ports.authority.get x = .CAB) → t.ports.serviceTimer = none) ∧
      Sends .SERVICE (.reply 0x31 .OK (t.heldBy .SERVICE).code) s t ∧
      t.ports.demand = s.ports.demand ∧ t.ports.link = s.ports.link ∧ t.brakes = s.brakes ∧ KeepsCounting s t ∧
      KeepsInputs s t ∧ KeepsPositions s t ∧ KeepsDrive s t ∧ KeepsRecords s t) ∧
    (¬ inSet → Answers (.release p) s fun t => Sends .SERVICE (.reply 0x31 .RANGE 0) s t ∧ KeepsAuthority s t)

/-- A STATUS frame of the machine as it stands is queued at each expiry of its timer, in the place of one that waits; a
kind that is not accepted is answered UNKNOWN_KIND; a sent frame leaves its queue; and a request that finds 8 frames in
the queue gets no answer, its receiver in HUNT. Which frames wait and what a full queue does to a STATUS are the model's choices: log entries
13 and 14. Times are those of log entries 1 and 3. -/
def Obligations.QueuesTakeStatusRepliesAndTransmission : Prop :=
  ∀ (s : State) (m : Master),
    (∀ d, s.ports.statusTimer.get m = some d → Answers (.statusTimerExpiry m) s fun t =>
      t.ports.statusTimer = s.ports.statusTimer.set m (timerEnd (expiryTime s d) (s.par (statusParam m))) ∧
      ((s.port m.port).tx.length < 8 → (s.port m.port).tx.tail.any TxFrame.isStatus = false →
        Sends m.port (.status s.statusContent) s t) ∧
      ((s.port m.port).tx.tail.any TxFrame.isStatus = true →
        .status s.statusContent ∈ (t.port m.port).tx ∧ (t.port m.port).tx.length = (s.port m.port).tx.length) ∧
      (8 ≤ (s.port m.port).tx.length → (s.port m.port).tx.tail.any TxFrame.isStatus = false →
        (t.port m.port).tx = (s.port m.port).tx) ∧
      t.alarms = s.alarms ∧ t.brakes = s.brakes ∧ KeepsCounting s t ∧ KeepsPositions s t ∧ KeepsDrive s t) ∧
    (∀ kind p, (s.port m.port).tx.length < 8 → Answers (.unknownKind m kind p) s fun t =>
      Sends m.port (.reply kind .UNKNOWN_KIND 0) s t ∧ t.brakes = s.brakes ∧ KeepsAuthority s t ∧ KeepsCounting s t) ∧
    (∀ q, Answers (.frameTransmitted q) s fun t =>
      (t.port q).tx = (s.port q).tx.tail ∧ (∀ x, x ≠ q → t.port x = s.port x) ∧ (t.port q).rx = (s.port q).rx ∧
      t = s.withPorts t.ports) ∧
    (∀ kind p, 8 ≤ (s.port .CAB).tx.length →
      let heard := s.setReceiver .CAB .HUNT
      exec (.unknownKind .CAB kind p) s = .next heard ∧ exec (.modeRequest .CAB p) s = .next heard ∧
      exec (.alarmAck .CAB p) s = .next heard ∧ exec (.alarmSilence .CAB p) s = .next heard ∧
      exec (.alarmReset .CAB p) s = .next heard ∧ exec (.alarmRead .CAB p) s = .next heard)

/-- The receiver of a port: what each byte makes of its state, the discard of a frame at a bad stop bit, a bad length, a
gap or a failed check, and the frame whose check agrees, which has the effect of its command. Every command that is the arrival
of a frame returns its port's receiver, and no other, to HUNT. That the last byte carries the frame's whole effect is the
model's choice: log entry 11. -/
def Obligations.ReceivedFrameIsItsCommand : Prop :=
  ∀ (s : State) (port : Port) (b : Byte),
    let byte := exec (.characterReceived port b true) s
    exec (.characterReceived port b false) s = .next (s.setReceiver port .HUNT) ∧
    exec (.interByteGap port) s = .next (s.setReceiver port .HUNT) ∧
    ((s.port port).rx = .HUNT → byte = .next (if b = 0xC3 then s.setReceiver port .KIND else s)) ∧
    ((s.port port).rx = .KIND → byte = .next (s.setReceiver port (.LENGTH b))) ∧
    (∀ k, (s.port port).rx = .LENGTH k → byte = .next (s.setReceiver port
      (if 250 < b.toNat then .HUNT else if b = 0 then .CHECK_LOW k [] else .PAYLOAD k b.toNat []))) ∧
    (∀ k n got, (s.port port).rx = .PAYLOAD k n got → byte = .next (s.setReceiver port
      (if got.length + 1 < n then .PAYLOAD k n (got ++ [b]) else .CHECK_LOW k (got ++ [b])))) ∧
    (∀ k p, (s.port port).rx = .CHECK_LOW k p → byte = .next (s.setReceiver port (.CHECK_HIGH k p b))) ∧
    (∀ k p low, (s.port port).rx = .CHECK_HIGH k p low →
      (crc (k :: BitVec.ofNat 8 p.length :: p) ≠ b ++ low → byte = .next (s.setReceiver port .HUNT)) ∧
      (crc (k :: BitVec.ofNat 8 p.length :: p) = b ++ low →
        byte = match port with
          | .CAB => exec (masterCommand .CAB k p) (s.setReceiver .CAB .HUNT)
          | .SERVICE => exec (serviceCommand k p) (s.setReceiver .SERVICE .HUNT)
          | .DRIVE => if k = 0x70 then exec (.driveStatus p) (s.setReceiver .DRIVE .HUNT)
            else .next (s.setReceiver .DRIVE .HUNT))) ∧
    (∀ i, framePort i = some port → Answers i s fun t =>
      (t.port port).rx = .HUNT ∧ ∀ x, x ≠ port → (t.port x).rx = (s.port x).rx)

/-! ### Profiles and parameters -/

/-- An accepted PARAM_WRITE stores its value, leaves every other parameter, sets the dirty flag and is answered OK; a
value out of range, an inconsistent value, a closed gate and an unknown id are refused and change no parameter. The gated
parameters are the geometry group, SWING_CPR, CAM_CPR and CAM_MODE, held while a brake of H, D, S is out of SET; the chord
terms and the phase boundaries are checked as R180 says. START_SLOT leaves the dirty flag and takes a fresh check word. A
PARAM_READ answers the value as it stands, for the read-only ids too, and an unknown id RANGE with detail 1. The bytes under
the check words are the model's choice: log entry 10. -/
def Obligations.ParameterWritesAndReads : Prop :=
  (∀ q : Param, q.row.gated = true ↔
    (0x0101 ≤ q.row.id ∧ q.row.id ≤ 0x010C) ∨ q = .SWING_CPR ∨ q = .CAM_CPR ∨ q = .CAM_MODE) ∧
  (∀ (s : State) (q : Param), s.gateClosed q = true ↔ q.row.gated = true ∧
    ((s.brake .H).state ≠ .SET ∨ (s.brake .D).state ≠ .SET ∨ (s.brake .S).state ≠ .SET)) ∧
  (∀ (w : Profile) (v : Int),
    let chord (c s : Int) : Prop := mag (c * c + s * s - 1073741824) ≤ 16777216
    let phases (a b c d : Int) : Prop := a < b ∧ b < c ∧ c < d
    (w.consistentWith .CHORD_COS v = true ↔ chord v (w.get .CHORD_SIN)) ∧
    (w.consistentWith .CHORD_SIN v = true ↔ chord (w.get .CHORD_COS) v) ∧
    (w.consistentWith .PHASE_1 v = true ↔ phases v (w.get .PHASE_2) (w.get .PHASE_3) (w.get .PHASE_4)) ∧
    (w.consistentWith .PHASE_2 v = true ↔ phases (w.get .PHASE_1) v (w.get .PHASE_3) (w.get .PHASE_4)) ∧
    (w.consistentWith .PHASE_3 v = true ↔ phases (w.get .PHASE_1) (w.get .PHASE_2) v (w.get .PHASE_4)) ∧
    (w.consistentWith .PHASE_4 v = true ↔ phases (w.get .PHASE_1) (w.get .PHASE_2) (w.get .PHASE_3) v) ∧
    ∀ q, q ≠ .CHORD_COS → q ≠ .CHORD_SIN → q ≠ .PHASE_1 → q ≠ .PHASE_2 → q ≠ .PHASE_3 → q ≠ .PHASE_4 →
      w.consistentWith q v = true) ∧
  (∀ (s : State) (q : Param) (p : List Byte), (s.port .SERVICE).tx.length < 8 → p.length = 6 → u16 p 0 = q.row.id →
    let refused (r : ReplyResult) (detail : Int) : Prop := Answers (.paramWrite p) s fun t =>
      Sends .SERVICE (.reply 0x42 r detail) s t ∧ t.store = s.store
    let inRange := q.allows (s32 p 2) = true
    let consistent := s.store.working.consistentWith q (s32 p 2) = true
    (inRange → consistent → s.gateClosed q = false → Answers (.paramWrite p) s fun t =>
      t.par q = s32 p 2 ∧ (∀ r, r ≠ q → t.par r = s.par r) ∧ t.store.dirty = true ∧
      Sends .SERVICE (.reply 0x42 .OK 0) s t ∧ t.store.save = s.store.save ∧ t.store.loaded = s.store.loaded ∧
      (∀ n, t.store.slot n = s.store.slot n) ∧ KeepsInputs s t ∧ t.geo = s.geo ∧ t.env = s.env ∧ t.fb = s.fb ∧
      t.drive = s.drive) ∧
    (¬ inRange → refused .RANGE 2) ∧ (inRange → ¬ consistent → refused .RANGE 3) ∧
    (inRange → consistent → s.gateClosed q = true → refused .REFUSED_STATE 1)) ∧
  (∀ (s : State) (p : List Byte), (s.port .SERVICE).tx.length < 8 → p.length = 6 → Param.ofId (u16 p 0) = none →
    ¬ (0x0F01 ≤ u16 p 0 ∧ u16 p 0 ≤ 0x0F05) → Answers (.paramWrite p) s fun t =>
      Sends .SERVICE (.reply 0x42 .RANGE 1) s t ∧ t.store = s.store) ∧
  (∀ (s : State) (p : List Byte), (s.port .SERVICE).tx.length < 8 → p.length = 6 →
    0x0F02 ≤ u16 p 0 → u16 p 0 ≤ 0x0F05 → Answers (.paramWrite p) s fun t =>
      Sends .SERVICE (.reply 0x42 .READ_ONLY 0) s t ∧ t.store = s.store) ∧
  (∀ (s : State) (v : BitVec 32), (s.port .SERVICE).tx.length < 8 →
    (0 ≤ v.toInt → v.toInt ≤ 3 → s.store.save = .IDLE → Answers (.startSlotWrite v) s fun t =>
      t.store = { s.store with startSlot := v.toInt.toNat, startCheck := startWord v.toInt.toNat } ∧
      Sends .SERVICE (.reply 0x42 .OK 0) s t ∧ t.brakes = s.brakes) ∧
    (0 ≤ v.toInt → v.toInt ≤ 3 → s.store.save ≠ .IDLE → Answers (.startSlotWrite v) s fun t =>
      t.store = s.store ∧ Sends .SERVICE (.reply 0x42 .BUSY 0) s t) ∧
    (v.toInt < 0 ∨ 3 < v.toInt → Answers (.startSlotWrite v) s fun t =>
      t.store = s.store ∧ Sends .SERVICE (.reply 0x42 .RANGE 2) s t)) ∧
  (∀ (s : State) (p : List Byte), (s.port .SERVICE).tx.length < 8 → p.length = 2 →
    let answers (v : Int) : Prop := Answers (.paramRead p) s fun t =>
      Sends .SERVICE (.paramValue (u16 p 0) v) s t ∧ t.store = s.store ∧ t.brakes = s.brakes
    let bit (n : Nat) : Int := if s.store.slotValid n then 2 ^ n else 0
    (∀ q : Param, u16 p 0 = q.row.id → answers (s.par q)) ∧
    (u16 p 0 = 0x0F01 → answers s.store.startSlot) ∧
    (u16 p 0 = 0x0F02 → answers (if s.store.dirty then 1 else 0)) ∧
    (u16 p 0 = 0x0F03 → answers (if s.store.save = .IDLE then 0 else 1)) ∧
    (u16 p 0 = 0x0F04 → answers s.store.loaded) ∧
    (u16 p 0 = 0x0F05 → answers (1 + bit 1 + bit 2 + bit 3)) ∧
    (Param.ofId (u16 p 0) = none → ¬ (0x0F01 ≤ u16 p 0 ∧ u16 p 0 ≤ 0x0F05) → Answers (.paramRead p) s fun t =>
      Sends .SERVICE (.reply 0x43 .RANGE 1) s t ∧ t.store = s.store))

/-- The parameters whose change acts at the write: floors raise their level, SWING_CPR loses the swing reference, the
cam parameters unsync both cams, an AUX class or scope passes to the entry, an AUX polarity can turn the input on,
ENVELOPE_ON starts or stops the envelope, and a mask has the demands judged again, which are the bits of the masks at the
present step for the class that governs each output (R146). That ENVELOPE_ON acts on a change only and SWING_CPR on every
change are the model's choices: log entries 17 and 29. -/
def Obligations.ParameterChangesActAtTheWrite : Prop :=
  (∀ (s : State) (o : AnnOutput), s.annDemand o = true ↔ (o = .HORN → s.alarms.silence = false) ∧
    ∃ c, Highest (governors s o) c ∧ (s.par (maskParam o c)).toNat / 2 ^ s.alarms.step % 2 = 1) ∧
  ∀ (s : State) (v : BitVec 32), (s.port .SERVICE).tx.length < 8 → ListSound s →
    (∀ c, (floorParam c).allows v.toInt = true → Answers (.curtailFloorWrite c v) s fun t =>
      t.par (floorParam c) = v.toInt ∧
      t.budget.level = (if s.budget.level.get c < v.toInt then s.budget.level.set c v.toInt else s.budget.level)) ∧
    (Param.allows .SWING_CPR v.toInt = true → s.gateClosed .SWING_CPR = false → Answers (.swingCprWrite v) s fun t =>
      t.par .SWING_CPR = v.toInt ∧
      (v.toInt ≠ s.par .SWING_CPR → t.swing.referenced = false ∧
        (t.chan .SWING).count = (s.chan .SWING).count % v.toInt ∧
        (HasRoomFor .SWING_UNREF s → s.ports.serviceLost = false → Raised .SWING_UNREF 0 t)) ∧
      (v.toInt = s.par .SWING_CPR → t.swing = s.swing ∧ t.chans = s.chans)) ∧
    (∀ w, (camParam w).allows v.toInt = true → s.gateClosed (camParam w) = false → Answers (.camParamWrite w v) s fun t =>
      t.par (camParam w) = v.toInt ∧
      (v.toInt ≠ s.par (camParam w) → ∀ c, (t.walk.cams.get c).sync = .UNSYNCED ∧ (t.walk.cams.get c).field = 0 ∧
        (t.walk.cams.get c).cond = (s.walk.cams.get c).cond ∧
        (t.chan (camCh c)).count = if w = .CAM_CPR then (s.chan (camCh c)).count % v.toInt
          else (s.chan (camCh c)).count) ∧
      (v.toInt = s.par (camParam w) → t.walk.cams = s.walk.cams ∧ t.chans = s.chans)) ∧
    (∀ a f, (auxFieldParam a f).allows v.toInt = true → Answers (.auxClassScopeWrite a f v) s fun t =>
      t.par (auxFieldParam a f) = v.toInt ∧
      (v.toInt ≠ s.par (auxFieldParam a f) → ∀ e ∈ s.alarms.list, e.code = auxCode a → e.state ≠ .CLEARED_LATCHED →
        ∃ e' ∈ t.alarms.list, e'.code = auxCode a ∧ e'.cls = t.auxClass a ∧ e'.scope = t.auxScope a ∧
          e'.state = e.state ∧ e'.count = e.count ∧ e'.detail = e.detail)) ∧
    (∀ a, (auxActive a).allows v.toInt = true → Answers (.auxActiveWrite a v) s fun t =>
      t.par (auxActive a) = v.toInt ∧ KeepsInputs s t ∧
      (s.isOn (auxInput a) = false → t.isOn (auxInput a) = true → HasRoomFor (auxCode a) s →
        Raised (auxCode a) 0 t)) ∧
    (Param.allows .ENVELOPE_ON v.toInt = true → Answers (.envelopeOnWrite v) s fun t =>
      t.par .ENVELOPE_ON = v.toInt ∧
      (v.toInt ≠ s.par .ENVELOPE_ON → v.toInt = 0 → t.alarms.envLevel = 1 ∧ t.alarms.envTimer = none) ∧
      (v.toInt ≠ s.par .ENVELOPE_ON → v.toInt = 1 →
        t.alarms.envLevel = s.alarms.envLevel ∧ t.alarms.envTimer = timerEnd s.time (s.par .ENVELOPE_STEP)) ∧
      (v.toInt = s.par .ENVELOPE_ON →
        t.alarms.envLevel = s.alarms.envLevel ∧ t.alarms.envTimer = s.alarms.envTimer)) ∧
    (∀ w, (maskWriteParam w).allows v.toInt = true → Answers (.maskWrite w v) s fun t =>
      t.par (maskWriteParam w) = v.toInt ∧ Annunciated t)

/-- A load is refused in the order of R177 and else replaces the working profile at once, with what follows for the
curtail levels and the pending tables; a save marks its slot invalid and writes a snapshot, which a matching completion
stores with its check word, so that it is valid, and any other end leaves invalid; the completion of a write that has ended
changes nothing. A slot is valid when its word is the check over its content, slot 0 always. The bytes of the content and the
word of an invalid slot, and the number that names a write, are the model's choices: log entries 10 and 22. -/
def Obligations.ProfileLoadAndSave : Prop :=
  (∀ st : Store, st.slotValid 0 = true ∧ st.slot 0 = ⟨Profile.factory, crc Profile.factory.image⟩ ∧
    ∀ n, 1 ≤ n → (st.slotValid n = true ↔ (st.slot n).check = crc (st.slot n).content.image)) ∧
  (∀ (s : State) (p : List Byte), (s.port .SERVICE).tx.length < 8 → p.length = 1 →
    let n := u8 p 0
    let set := ∀ m, (s.brake m).state = .SET
    let refused (r : ReplyResult) (detail : Int) : Prop := Answers (.profileLoad p) s fun t =>
      Sends .SERVICE (.reply 0x40 r detail) s t ∧ t.store = s.store
    (3 < n → refused .RANGE 0) ∧ (n ≤ 3 → ¬ set → refused .REFUSED_STATE 1) ∧
    (n ≤ 3 → set → s.store.save ≠ .IDLE → refused .BUSY 0) ∧
    (n ≤ 3 → set → s.store.save = .IDLE → s.store.slotValid n = false → refused .REFUSED_STATE 2) ∧
    (n ≤ 3 → set → s.store.save = .IDLE → s.store.slotValid n = true → Answers (.profileLoad p) s fun t =>
      t.store = { s.store with working := (s.store.slot n).content, loaded := n, dirty := false, fallback := false } ∧
      t.swing.pending = .ABSENT ∧ t.budget.level = ⟨1000, 1000, 1000⟩ ∧ t.budget.curtail = false ∧
      t.budget.dip = s.budget.dip ∧ t.fb = s.fb ∧ t.brakes = s.brakes ∧ t.geo = s.geo ∧ t.env = s.env ∧
      (s.par .SWING_CPR = t.par .SWING_CPR → t.swing.referenced = s.swing.referenced) ∧
      (s.par .SWING_CPR ≠ t.par .SWING_CPR → t.swing.referenced = false) ∧
      Sends .SERVICE (.reply 0x40 .OK n) s t)) ∧
  (∀ (s : State) (p : List Byte), (s.port .SERVICE).tx.length < 8 → p.length = 1 →
    let n := u8 p 0
    (3 < n → Answers (.profileSave p) s fun t => Sends .SERVICE (.reply 0x41 .RANGE 0) s t ∧ t.store = s.store) ∧
    (n = 0 → Answers (.profileSave p) s fun t => Sends .SERVICE (.reply 0x41 .READ_ONLY 0) s t ∧ t.store = s.store) ∧
    (1 ≤ n → n ≤ 3 → s.store.save ≠ .IDLE → Answers (.profileSave p) s fun t =>
      Sends .SERVICE (.reply 0x41 .BUSY 0) s t ∧ t.store = s.store) ∧
    (1 ≤ n → n ≤ 3 → s.store.save = .IDLE → Answers (.profileSave p) s fun t =>
      t.store.save = .WRITING n s.store.working ∧ t.store.slotValid n = false ∧ t.store.dirty = false ∧
      t.store.writes = s.store.writes + 1 ∧
      t.store.saveTimer = timerEnd s.time 300 ∧ t.store.working = s.store.working ∧
      (∀ k, k ≤ 3 → k ≠ n → t.store.slot k = s.store.slot k) ∧ Sends .SERVICE (.reply 0x41 .OK n) s t ∧
      t.brakes = s.brakes ∧ KeepsCounting s t ∧ KeepsPositions s t ∧ KeepsDrive s t)) ∧
  (∀ (s : State) (n : Nat) (w : Profile), s.store.save = .WRITING n w → 1 ≤ n → n ≤ 3 →
    let failed (t : State) : Prop := t.store.save = .IDLE ∧ t.store.saveTimer = none ∧ t.store.saveFail = true ∧
      t.store.dirty = true ∧ (∀ k, t.store.slot k = s.store.slot k) ∧ t.store.working = s.store.working ∧
      (HasRoomFor .PROFILE_SAVE_FAIL s → Raised .PROFILE_SAVE_FAIL n t)
    (Answers (.saveCompletion ⟨s.store.writes, true⟩) s fun t =>
      t.store.slot n = ⟨w, crc w.image⟩ ∧ t.store.slotValid n = true ∧ t.store.save = .IDLE ∧
      t.store.saveTimer = none ∧ t.store.saveFail = false ∧
      (∀ k, k ≤ 3 → k ≠ n → t.store.slot k = s.store.slot k) ∧ t.store.dirty = s.store.dirty ∧
      t.store.working = s.store.working ∧ (s.store.saveFail = true → Cleared .PROFILE_SAVE_FAIL t)) ∧
    Answers (.saveCompletion ⟨s.store.writes, false⟩) s failed ∧
    (∀ d, s.store.saveTimer = some d → Answers .saveTimerExpiry s failed)) ∧
  (∀ (s : State) (c : Completion), s.store.save = .IDLE ∨ c.write ≠ s.store.writes →
    exec (.saveCompletion c) s = .next s)

/-- The staging of the swing tables: a TABLE_WRITE edits the pending copy, in the absence of one a copy of the active tables,
and never the active one: it puts the count, or the fields of the entry as the frame carries them, in its place. A TABLE_APPLY
with the swing brake SET activates a copy that passes the check and else leaves it READY; the check finds the first entry that
fails, radius entries before sectors. A TABLE_DISCARD drops the copy, and a TABLE_READ shows the copy named. A table, item or
count out of range and a wrong length are refused. What fills the places of a fresh copy, and that the fields of
an entry are read unsigned, are the model's choices: log entries 21 and 19. -/
def Obligations.SwingTablesAreStaged : Prop :=
  (∀ s : State,
    (s.swing.pending = .ABSENT →
      s.editCopy.radiusCount = s.store.working.tables.radius.length ∧
      s.editCopy.zoneCount = s.store.working.tables.zones.length ∧
      ∀ i : Fin 8, s.editCopy.radius[i] = s.store.working.tables.radius.getD i ⟨0, 0, 0⟩ ∧
        s.editCopy.zones[i] = s.store.working.tables.zones.getD i ⟨0, 0, 0, some 0⟩) ∧
    (∀ c, s.swing.pending = .EDITING c ∨ s.swing.pending = .READY c → s.editCopy = c)) ∧
  (∀ (c : PendingCopy) (p : List Byte),
    (u8 p 1 = 0 → c.write .RADIUS p = { c with radiusCount := u8 p 2 } ∧
      c.write .ZONE p = { c with zoneCount := u8 p 2 }) ∧
    (1 ≤ u8 p 1 → u8 p 1 ≤ 8 →
      c.write .RADIUS p = { c with radius := (c.write .RADIUS p).radius } ∧
      c.write .ZONE p = { c with zones := (c.write .ZONE p).zones } ∧
      ∀ i : Fin 8,
        (c.write .RADIUS p).radius[i] = (if (i : Nat) + 1 = u8 p 1 then ⟨u16 p 2, u16 p 4, u16 p 6⟩ else c.radius[i]) ∧
        (c.write .ZONE p).zones[i] = (if (i : Nat) + 1 = u8 p 1
          then ⟨u16 p 2, u16 p 4, u8 p 6, if u8 p 6 = 1 then none else some (u16 p 7)⟩ else c.zones[i]))) ∧
  (∀ t : SwingTables, (∀ n, t.firstBad = some n ↔ FirstFailure t n)) ∧
  (∀ n, tableOf n = (if n = 1 then some .RADIUS else if n = 2 then some .ZONE else none) ∧
    tableWriteLength .RADIUS n = (if n = 0 then 3 else 8) ∧ tableWriteLength .ZONE n = (if n = 0 then 3 else 9)) ∧
  ∀ (s : State) (p : List Byte), ListSound s → (s.port .SERVICE).tx.length < 8 →
    let refused (r : ReplyResult) (detail : Int) : Prop := Answers (.tableWrite p) s fun t =>
      Sends .SERVICE (.reply 0x50 r detail) s t ∧ t.swing = s.swing ∧ t.store = s.store
    (∀ table, tableOf (u8 p 0) = some table → u8 p 1 ≤ 8 →
      (p.length = tableWriteLength table (u8 p 1) → (u8 p 1 = 0 → u8 p 2 ≤ 8) → Answers (.tableWrite p) s fun t =>
        t.swing.pending = .EDITING (s.editCopy.write table p) ∧ t.store = s.store ∧
        Sends .SERVICE (.reply 0x50 .OK 0) s t ∧ t.brakes = s.brakes ∧ KeepsCounting s t ∧ KeepsDrive s t) ∧
      (p.length = tableWriteLength table (u8 p 1) → u8 p 1 = 0 → 8 < u8 p 2 → refused .RANGE 0) ∧
      (p.length ≠ tableWriteLength table (u8 p 1) → refused .BAD_LENGTH p.length)) ∧
    (p.length < 2 → refused .BAD_LENGTH p.length) ∧
    (2 ≤ p.length → tableOf (u8 p 0) = none ∨ 8 < u8 p 1 → refused .RANGE 0) ∧
    (p.length = 0 → s.swing.pending = .ABSENT → Answers (.tableApply p) s fun t =>
      Sends .SERVICE (.reply 0x51 .REFUSED_STATE 0) s t ∧ t.swing = s.swing ∧ t.store = s.store) ∧
    (∀ c, p.length = 0 → (s.swing.pending = .EDITING c ∨ s.swing.pending = .READY c) →
      (∀ n, c.tables.firstBad = some n → Answers (.tableApply p) s fun t =>
        Sends .SERVICE (.reply 0x51 .RANGE n) s t ∧ t.swing = s.swing ∧ t.store = s.store) ∧
      (c.tables.firstBad = none → (s.brake .S).state = .SET → Answers (.tableApply p) s fun t =>
        t.store.working.tables = ⟨c.radius.toList.take c.radiusCount, c.zones.toList.take c.zoneCount⟩ ∧
        t.store.dirty = true ∧ t.swing.pending = .ABSENT ∧
        (∀ q, t.par q = s.par q) ∧ Sends .SERVICE (.reply 0x51 .OK 0) s t ∧ t.brakes = s.brakes) ∧
      (c.tables.firstBad = none → (s.brake .S).state ≠ .SET → Answers (.tableApply p) s fun t =>
        t.swing.pending = .READY c ∧ t.store = s.store ∧ Sends .SERVICE (.reply 0x51 .OK 0) s t)) ∧
    (p.length = 0 → Answers (.tableDiscard p) s fun t =>
      t.swing = { s.swing with pending := .ABSENT } ∧ t.store = s.store ∧ Sends .SERVICE (.reply 0x52 .OK 0) s t ∧
      t.brakes = s.brakes) ∧
    (∀ c table, p.length = 2 → copyOf (u8 p 0) = some c → tableOf (u8 p 1) = some table →
      Answers (.tableRead p) s fun t =>
        Sends .SERVICE (.tableValue c s.swing.pending.code ((s.tablesOf c).content table)) s t ∧
        t.swing = s.swing ∧ t.store = s.store ∧ t.brakes = s.brakes) ∧
    (p.length = 2 → copyOf (u8 p 0) = none ∨ tableOf (u8 p 1) = none → Answers (.tableRead p) s fun t =>
      Sends .SERVICE (.reply 0x53 .RANGE 0) s t ∧ t.swing = s.swing) ∧
    (p.length ≠ 0 → (Answers (.tableApply p) s fun t =>
      Sends .SERVICE (.reply 0x51 .BAD_LENGTH p.length) s t ∧ t.swing = s.swing) ∧
      Answers (.tableDiscard p) s fun t => Sends .SERVICE (.reply 0x52 .BAD_LENGTH p.length) s t ∧ t.swing = s.swing) ∧
    (p.length ≠ 2 → Answers (.tableRead p) s fun t =>
      Sends .SERVICE (.reply 0x53 .BAD_LENGTH p.length) s t ∧ t.swing = s.swing)

/-! ### What every step keeps -/

/-- No step brings a brake to work against a TRIP entry, a drag brake outside DIG or a walk brake outside WALK, or parts
a coil line from its sequencer or XFER_COIL from the transfer state. No step leaves a transfer condition present outside
TRANSFER_FAULT or while the contactor reads the dig position. -/
def Obligations.EveryStepKeepsTheBrakesSafe : Prop :=
  (KeptByStep fun s => AlarmsSafe s ∧ BrakesSafe s) ∧ KeptByStep TransferCondsSound

/-- Every step keeps the alarm list sound, with at most 32 entries, no two of one code and each of its code's class, and
DRIVE_ENABLE off while ESTOP_OK is off or ESTOP is listed. -/
def Obligations.EveryStepKeepsTheAlarmListSound : Prop :=
  KeptByStep AlarmsSafe

/-- Every step keeps each transmit queue within 8 frames and the ring within 256 records. -/
def Obligations.EveryStepKeepsTheBuffersBounded : Prop :=
  KeptByStep BuffersBounded

/-- Every step keeps the parameters of every stored profile in their ranges, the curtail levels between floor and 1000,
and the counts in the ranges of their channels. -/
def Obligations.EveryStepKeepsTheValuesInRange : Prop :=
  KeptByStep ValuesInRange

/-- The state after reset has every property that the steps keep, and RESET in that state gives the same state again.
The raw levels and slots of State.reset are the model's choice: log entries 7 and 9. -/
def Obligations.ResetStateIsSafe : Prop :=
  AlarmsSafe State.reset ∧ BrakesSafe State.reset ∧ TransferCondsSound State.reset ∧ BuffersBounded State.reset ∧
    ValuesInRange State.reset ∧ exec .reset State.reset = .next State.reset
end

