-- ==== Sys2Proof/Laws/State.lean ====
section
/-! SUPPORT. One lemma per field per update of the state, true by rfl. -/

namespace Sys2Proof.Machine

@[simp] theorem State.withTime_time (s : State) (v : Nat) : (s.withTime v).time = v := rfl
@[simp] theorem State.withTime_lines (s : State) (v : Nat) : (s.withTime v).lines = s.lines := rfl
@[simp] theorem State.withTime_chans (s : State) (v : Nat) : (s.withTime v).chans = s.chans := rfl
@[simp] theorem State.withTime_pulseDir (s : State) (v : Nat) : (s.withTime v).pulseDir = s.pulseDir := rfl
@[simp] theorem State.withTime_di (s : State) (v : Nat) : (s.withTime v).di = s.di := rfl
@[simp] theorem State.withTime_out (s : State) (v : Nat) : (s.withTime v).out = s.out := rfl
@[simp] theorem State.withTime_horn (s : State) (v : Nat) : (s.withTime v).horn = s.horn := rfl
@[simp] theorem State.withTime_geo (s : State) (v : Nat) : (s.withTime v).geo = s.geo := rfl
@[simp] theorem State.withTime_env (s : State) (v : Nat) : (s.withTime v).env = s.env := rfl
@[simp] theorem State.withTime_swing (s : State) (v : Nat) : (s.withTime v).swing = s.swing := rfl
@[simp] theorem State.withTime_fb (s : State) (v : Nat) : (s.withTime v).fb = s.fb := rfl
@[simp] theorem State.withTime_drive (s : State) (v : Nat) : (s.withTime v).drive = s.drive := rfl
@[simp] theorem State.withTime_brakes (s : State) (v : Nat) : (s.withTime v).brakes = s.brakes := rfl
@[simp] theorem State.withTime_walk (s : State) (v : Nat) : (s.withTime v).walk = s.walk := rfl
@[simp] theorem State.withTime_budget (s : State) (v : Nat) : (s.withTime v).budget = s.budget := rfl
@[simp] theorem State.withTime_alarms (s : State) (v : Nat) : (s.withTime v).alarms = s.alarms := rfl
@[simp] theorem State.withTime_trend (s : State) (v : Nat) : (s.withTime v).trend = s.trend := rfl
@[simp] theorem State.withTime_ports (s : State) (v : Nat) : (s.withTime v).ports = s.ports := rfl
@[simp] theorem State.withTime_store (s : State) (v : Nat) : (s.withTime v).store = s.store := rfl
@[simp] theorem State.withTime_freeCount (s : State) (v : Nat) : (s.withTime v).freeCount = s.freeCount := rfl
@[simp] theorem State.withTime_pending (s : State) (v : Nat) : (s.withTime v).pending = s.pending := rfl

@[simp] theorem State.withLines_time (s : State) (v : Vector CountInput 13) : (s.withLines v).time = s.time := rfl
@[simp] theorem State.withLines_lines (s : State) (v : Vector CountInput 13) : (s.withLines v).lines = v := rfl
@[simp] theorem State.withLines_chans (s : State) (v : Vector CountInput 13) : (s.withLines v).chans = s.chans := rfl
@[simp] theorem State.withLines_pulseDir (s : State) (v : Vector CountInput 13) : (s.withLines v).pulseDir = s.pulseDir := rfl
@[simp] theorem State.withLines_di (s : State) (v : Vector CountInput 13) : (s.withLines v).di = s.di := rfl
@[simp] theorem State.withLines_out (s : State) (v : Vector CountInput 13) : (s.withLines v).out = s.out := rfl
@[simp] theorem State.withLines_horn (s : State) (v : Vector CountInput 13) : (s.withLines v).horn = s.horn := rfl
@[simp] theorem State.withLines_geo (s : State) (v : Vector CountInput 13) : (s.withLines v).geo = s.geo := rfl
@[simp] theorem State.withLines_env (s : State) (v : Vector CountInput 13) : (s.withLines v).env = s.env := rfl
@[simp] theorem State.withLines_swing (s : State) (v : Vector CountInput 13) : (s.withLines v).swing = s.swing := rfl
@[simp] theorem State.withLines_fb (s : State) (v : Vector CountInput 13) : (s.withLines v).fb = s.fb := rfl
@[simp] theorem State.withLines_drive (s : State) (v : Vector CountInput 13) : (s.withLines v).drive = s.drive := rfl
@[simp] theorem State.withLines_brakes (s : State) (v : Vector CountInput 13) : (s.withLines v).brakes = s.brakes := rfl
@[simp] theorem State.withLines_walk (s : State) (v : Vector CountInput 13) : (s.withLines v).walk = s.walk := rfl
@[simp] theorem State.withLines_budget (s : State) (v : Vector CountInput 13) : (s.withLines v).budget = s.budget := rfl
@[simp] theorem State.withLines_alarms (s : State) (v : Vector CountInput 13) : (s.withLines v).alarms = s.alarms := rfl
@[simp] theorem State.withLines_trend (s : State) (v : Vector CountInput 13) : (s.withLines v).trend = s.trend := rfl
@[simp] theorem State.withLines_ports (s : State) (v : Vector CountInput 13) : (s.withLines v).ports = s.ports := rfl
@[simp] theorem State.withLines_store (s : State) (v : Vector CountInput 13) : (s.withLines v).store = s.store := rfl
@[simp] theorem State.withLines_freeCount (s : State) (v : Vector CountInput 13) : (s.withLines v).freeCount = s.freeCount := rfl
@[simp] theorem State.withLines_pending (s : State) (v : Vector CountInput 13) : (s.withLines v).pending = s.pending := rfl

@[simp] theorem State.withChans_time (s : State) (v : PerCount CountChannel) : (s.withChans v).time = s.time := rfl
@[simp] theorem State.withChans_lines (s : State) (v : PerCount CountChannel) : (s.withChans v).lines = s.lines := rfl
@[simp] theorem State.withChans_chans (s : State) (v : PerCount CountChannel) : (s.withChans v).chans = v := rfl
@[simp] theorem State.withChans_pulseDir (s : State) (v : PerCount CountChannel) : (s.withChans v).pulseDir = s.pulseDir := rfl
@[simp] theorem State.withChans_di (s : State) (v : PerCount CountChannel) : (s.withChans v).di = s.di := rfl
@[simp] theorem State.withChans_out (s : State) (v : PerCount CountChannel) : (s.withChans v).out = s.out := rfl
@[simp] theorem State.withChans_horn (s : State) (v : PerCount CountChannel) : (s.withChans v).horn = s.horn := rfl
@[simp] theorem State.withChans_geo (s : State) (v : PerCount CountChannel) : (s.withChans v).geo = s.geo := rfl
@[simp] theorem State.withChans_env (s : State) (v : PerCount CountChannel) : (s.withChans v).env = s.env := rfl
@[simp] theorem State.withChans_swing (s : State) (v : PerCount CountChannel) : (s.withChans v).swing = s.swing := rfl
@[simp] theorem State.withChans_fb (s : State) (v : PerCount CountChannel) : (s.withChans v).fb = s.fb := rfl
@[simp] theorem State.withChans_drive (s : State) (v : PerCount CountChannel) : (s.withChans v).drive = s.drive := rfl
@[simp] theorem State.withChans_brakes (s : State) (v : PerCount CountChannel) : (s.withChans v).brakes = s.brakes := rfl
@[simp] theorem State.withChans_walk (s : State) (v : PerCount CountChannel) : (s.withChans v).walk = s.walk := rfl
@[simp] theorem State.withChans_budget (s : State) (v : PerCount CountChannel) : (s.withChans v).budget = s.budget := rfl
@[simp] theorem State.withChans_alarms (s : State) (v : PerCount CountChannel) : (s.withChans v).alarms = s.alarms := rfl
@[simp] theorem State.withChans_trend (s : State) (v : PerCount CountChannel) : (s.withChans v).trend = s.trend := rfl
@[simp] theorem State.withChans_ports (s : State) (v : PerCount CountChannel) : (s.withChans v).ports = s.ports := rfl
@[simp] theorem State.withChans_store (s : State) (v : PerCount CountChannel) : (s.withChans v).store = s.store := rfl
@[simp] theorem State.withChans_freeCount (s : State) (v : PerCount CountChannel) : (s.withChans v).freeCount = s.freeCount := rfl
@[simp] theorem State.withChans_pending (s : State) (v : PerCount CountChannel) : (s.withChans v).pending = s.pending := rfl

@[simp] theorem State.withPulseDir_time (s : State) (v : Sign) : (s.withPulseDir v).time = s.time := rfl
@[simp] theorem State.withPulseDir_lines (s : State) (v : Sign) : (s.withPulseDir v).lines = s.lines := rfl
@[simp] theorem State.withPulseDir_chans (s : State) (v : Sign) : (s.withPulseDir v).chans = s.chans := rfl
@[simp] theorem State.withPulseDir_pulseDir (s : State) (v : Sign) : (s.withPulseDir v).pulseDir = v := rfl
@[simp] theorem State.withPulseDir_di (s : State) (v : Sign) : (s.withPulseDir v).di = s.di := rfl
@[simp] theorem State.withPulseDir_out (s : State) (v : Sign) : (s.withPulseDir v).out = s.out := rfl
@[simp] theorem State.withPulseDir_horn (s : State) (v : Sign) : (s.withPulseDir v).horn = s.horn := rfl
@[simp] theorem State.withPulseDir_geo (s : State) (v : Sign) : (s.withPulseDir v).geo = s.geo := rfl
@[simp] theorem State.withPulseDir_env (s : State) (v : Sign) : (s.withPulseDir v).env = s.env := rfl
@[simp] theorem State.withPulseDir_swing (s : State) (v : Sign) : (s.withPulseDir v).swing = s.swing := rfl
@[simp] theorem State.withPulseDir_fb (s : State) (v : Sign) : (s.withPulseDir v).fb = s.fb := rfl
@[simp] theorem State.withPulseDir_drive (s : State) (v : Sign) : (s.withPulseDir v).drive = s.drive := rfl
@[simp] theorem State.withPulseDir_brakes (s : State) (v : Sign) : (s.withPulseDir v).brakes = s.brakes := rfl
@[simp] theorem State.withPulseDir_walk (s : State) (v : Sign) : (s.withPulseDir v).walk = s.walk := rfl
@[simp] theorem State.withPulseDir_budget (s : State) (v : Sign) : (s.withPulseDir v).budget = s.budget := rfl
@[simp] theorem State.withPulseDir_alarms (s : State) (v : Sign) : (s.withPulseDir v).alarms = s.alarms := rfl
@[simp] theorem State.withPulseDir_trend (s : State) (v : Sign) : (s.withPulseDir v).trend = s.trend := rfl
@[simp] theorem State.withPulseDir_ports (s : State) (v : Sign) : (s.withPulseDir v).ports = s.ports := rfl
@[simp] theorem State.withPulseDir_store (s : State) (v : Sign) : (s.withPulseDir v).store = s.store := rfl
@[simp] theorem State.withPulseDir_freeCount (s : State) (v : Sign) : (s.withPulseDir v).freeCount = s.freeCount := rfl
@[simp] theorem State.withPulseDir_pending (s : State) (v : Sign) : (s.withPulseDir v).pending = s.pending := rfl

@[simp] theorem State.withDi_time (s : State) (v : Vector DiscreteInput 16) : (s.withDi v).time = s.time := rfl
@[simp] theorem State.withDi_lines (s : State) (v : Vector DiscreteInput 16) : (s.withDi v).lines = s.lines := rfl
@[simp] theorem State.withDi_chans (s : State) (v : Vector DiscreteInput 16) : (s.withDi v).chans = s.chans := rfl
@[simp] theorem State.withDi_pulseDir (s : State) (v : Vector DiscreteInput 16) : (s.withDi v).pulseDir = s.pulseDir := rfl
@[simp] theorem State.withDi_di (s : State) (v : Vector DiscreteInput 16) : (s.withDi v).di = v := rfl
@[simp] theorem State.withDi_out (s : State) (v : Vector DiscreteInput 16) : (s.withDi v).out = s.out := rfl
@[simp] theorem State.withDi_horn (s : State) (v : Vector DiscreteInput 16) : (s.withDi v).horn = s.horn := rfl
@[simp] theorem State.withDi_geo (s : State) (v : Vector DiscreteInput 16) : (s.withDi v).geo = s.geo := rfl
@[simp] theorem State.withDi_env (s : State) (v : Vector DiscreteInput 16) : (s.withDi v).env = s.env := rfl
@[simp] theorem State.withDi_swing (s : State) (v : Vector DiscreteInput 16) : (s.withDi v).swing = s.swing := rfl
@[simp] theorem State.withDi_fb (s : State) (v : Vector DiscreteInput 16) : (s.withDi v).fb = s.fb := rfl
@[simp] theorem State.withDi_drive (s : State) (v : Vector DiscreteInput 16) : (s.withDi v).drive = s.drive := rfl
@[simp] theorem State.withDi_brakes (s : State) (v : Vector DiscreteInput 16) : (s.withDi v).brakes = s.brakes := rfl
@[simp] theorem State.withDi_walk (s : State) (v : Vector DiscreteInput 16) : (s.withDi v).walk = s.walk := rfl
@[simp] theorem State.withDi_budget (s : State) (v : Vector DiscreteInput 16) : (s.withDi v).budget = s.budget := rfl
@[simp] theorem State.withDi_alarms (s : State) (v : Vector DiscreteInput 16) : (s.withDi v).alarms = s.alarms := rfl
@[simp] theorem State.withDi_trend (s : State) (v : Vector DiscreteInput 16) : (s.withDi v).trend = s.trend := rfl
@[simp] theorem State.withDi_ports (s : State) (v : Vector DiscreteInput 16) : (s.withDi v).ports = s.ports := rfl
@[simp] theorem State.withDi_store (s : State) (v : Vector DiscreteInput 16) : (s.withDi v).store = s.store := rfl
@[simp] theorem State.withDi_freeCount (s : State) (v : Vector DiscreteInput 16) : (s.withDi v).freeCount = s.freeCount := rfl
@[simp] theorem State.withDi_pending (s : State) (v : Vector DiscreteInput 16) : (s.withDi v).pending = s.pending := rfl

@[simp] theorem State.withOut_time (s : State) (v : Outputs) : (s.withOut v).time = s.time := rfl
@[simp] theorem State.withOut_lines (s : State) (v : Outputs) : (s.withOut v).lines = s.lines := rfl
@[simp] theorem State.withOut_chans (s : State) (v : Outputs) : (s.withOut v).chans = s.chans := rfl
@[simp] theorem State.withOut_pulseDir (s : State) (v : Outputs) : (s.withOut v).pulseDir = s.pulseDir := rfl
@[simp] theorem State.withOut_di (s : State) (v : Outputs) : (s.withOut v).di = s.di := rfl
@[simp] theorem State.withOut_out (s : State) (v : Outputs) : (s.withOut v).out = v := rfl
@[simp] theorem State.withOut_horn (s : State) (v : Outputs) : (s.withOut v).horn = s.horn := rfl
@[simp] theorem State.withOut_geo (s : State) (v : Outputs) : (s.withOut v).geo = s.geo := rfl
@[simp] theorem State.withOut_env (s : State) (v : Outputs) : (s.withOut v).env = s.env := rfl
@[simp] theorem State.withOut_swing (s : State) (v : Outputs) : (s.withOut v).swing = s.swing := rfl
@[simp] theorem State.withOut_fb (s : State) (v : Outputs) : (s.withOut v).fb = s.fb := rfl
@[simp] theorem State.withOut_drive (s : State) (v : Outputs) : (s.withOut v).drive = s.drive := rfl
@[simp] theorem State.withOut_brakes (s : State) (v : Outputs) : (s.withOut v).brakes = s.brakes := rfl
@[simp] theorem State.withOut_walk (s : State) (v : Outputs) : (s.withOut v).walk = s.walk := rfl
@[simp] theorem State.withOut_budget (s : State) (v : Outputs) : (s.withOut v).budget = s.budget := rfl
@[simp] theorem State.withOut_alarms (s : State) (v : Outputs) : (s.withOut v).alarms = s.alarms := rfl
@[simp] theorem State.withOut_trend (s : State) (v : Outputs) : (s.withOut v).trend = s.trend := rfl
@[simp] theorem State.withOut_ports (s : State) (v : Outputs) : (s.withOut v).ports = s.ports := rfl
@[simp] theorem State.withOut_store (s : State) (v : Outputs) : (s.withOut v).store = s.store := rfl
@[simp] theorem State.withOut_freeCount (s : State) (v : Outputs) : (s.withOut v).freeCount = s.freeCount := rfl
@[simp] theorem State.withOut_pending (s : State) (v : Outputs) : (s.withOut v).pending = s.pending := rfl

@[simp] theorem State.withHorn_time (s : State) (v : HornSwitch) : (s.withHorn v).time = s.time := rfl
@[simp] theorem State.withHorn_lines (s : State) (v : HornSwitch) : (s.withHorn v).lines = s.lines := rfl
@[simp] theorem State.withHorn_chans (s : State) (v : HornSwitch) : (s.withHorn v).chans = s.chans := rfl
@[simp] theorem State.withHorn_pulseDir (s : State) (v : HornSwitch) : (s.withHorn v).pulseDir = s.pulseDir := rfl
@[simp] theorem State.withHorn_di (s : State) (v : HornSwitch) : (s.withHorn v).di = s.di := rfl
@[simp] theorem State.withHorn_out (s : State) (v : HornSwitch) : (s.withHorn v).out = s.out := rfl
@[simp] theorem State.withHorn_horn (s : State) (v : HornSwitch) : (s.withHorn v).horn = v := rfl
@[simp] theorem State.withHorn_geo (s : State) (v : HornSwitch) : (s.withHorn v).geo = s.geo := rfl
@[simp] theorem State.withHorn_env (s : State) (v : HornSwitch) : (s.withHorn v).env = s.env := rfl
@[simp] theorem State.withHorn_swing (s : State) (v : HornSwitch) : (s.withHorn v).swing = s.swing := rfl
@[simp] theorem State.withHorn_fb (s : State) (v : HornSwitch) : (s.withHorn v).fb = s.fb := rfl
@[simp] theorem State.withHorn_drive (s : State) (v : HornSwitch) : (s.withHorn v).drive = s.drive := rfl
@[simp] theorem State.withHorn_brakes (s : State) (v : HornSwitch) : (s.withHorn v).brakes = s.brakes := rfl
@[simp] theorem State.withHorn_walk (s : State) (v : HornSwitch) : (s.withHorn v).walk = s.walk := rfl
@[simp] theorem State.withHorn_budget (s : State) (v : HornSwitch) : (s.withHorn v).budget = s.budget := rfl
@[simp] theorem State.withHorn_alarms (s : State) (v : HornSwitch) : (s.withHorn v).alarms = s.alarms := rfl
@[simp] theorem State.withHorn_trend (s : State) (v : HornSwitch) : (s.withHorn v).trend = s.trend := rfl
@[simp] theorem State.withHorn_ports (s : State) (v : HornSwitch) : (s.withHorn v).ports = s.ports := rfl
@[simp] theorem State.withHorn_store (s : State) (v : HornSwitch) : (s.withHorn v).store = s.store := rfl
@[simp] theorem State.withHorn_freeCount (s : State) (v : HornSwitch) : (s.withHorn v).freeCount = s.freeCount := rfl
@[simp] theorem State.withHorn_pending (s : State) (v : HornSwitch) : (s.withHorn v).pending = s.pending := rfl

@[simp] theorem State.withGeo_time (s : State) (v : Geometry) : (s.withGeo v).time = s.time := rfl
@[simp] theorem State.withGeo_lines (s : State) (v : Geometry) : (s.withGeo v).lines = s.lines := rfl
@[simp] theorem State.withGeo_chans (s : State) (v : Geometry) : (s.withGeo v).chans = s.chans := rfl
@[simp] theorem State.withGeo_pulseDir (s : State) (v : Geometry) : (s.withGeo v).pulseDir = s.pulseDir := rfl
@[simp] theorem State.withGeo_di (s : State) (v : Geometry) : (s.withGeo v).di = s.di := rfl
@[simp] theorem State.withGeo_out (s : State) (v : Geometry) : (s.withGeo v).out = s.out := rfl
@[simp] theorem State.withGeo_horn (s : State) (v : Geometry) : (s.withGeo v).horn = s.horn := rfl
@[simp] theorem State.withGeo_geo (s : State) (v : Geometry) : (s.withGeo v).geo = v := rfl
@[simp] theorem State.withGeo_env (s : State) (v : Geometry) : (s.withGeo v).env = s.env := rfl
@[simp] theorem State.withGeo_swing (s : State) (v : Geometry) : (s.withGeo v).swing = s.swing := rfl
@[simp] theorem State.withGeo_fb (s : State) (v : Geometry) : (s.withGeo v).fb = s.fb := rfl
@[simp] theorem State.withGeo_drive (s : State) (v : Geometry) : (s.withGeo v).drive = s.drive := rfl
@[simp] theorem State.withGeo_brakes (s : State) (v : Geometry) : (s.withGeo v).brakes = s.brakes := rfl
@[simp] theorem State.withGeo_walk (s : State) (v : Geometry) : (s.withGeo v).walk = s.walk := rfl
@[simp] theorem State.withGeo_budget (s : State) (v : Geometry) : (s.withGeo v).budget = s.budget := rfl
@[simp] theorem State.withGeo_alarms (s : State) (v : Geometry) : (s.withGeo v).alarms = s.alarms := rfl
@[simp] theorem State.withGeo_trend (s : State) (v : Geometry) : (s.withGeo v).trend = s.trend := rfl
@[simp] theorem State.withGeo_ports (s : State) (v : Geometry) : (s.withGeo v).ports = s.ports := rfl
@[simp] theorem State.withGeo_store (s : State) (v : Geometry) : (s.withGeo v).store = s.store := rfl
@[simp] theorem State.withGeo_freeCount (s : State) (v : Geometry) : (s.withGeo v).freeCount = s.freeCount := rfl
@[simp] theorem State.withGeo_pending (s : State) (v : Geometry) : (s.withGeo v).pending = s.pending := rfl

@[simp] theorem State.withEnv_time (s : State) (v : Envelope) : (s.withEnv v).time = s.time := rfl
@[simp] theorem State.withEnv_lines (s : State) (v : Envelope) : (s.withEnv v).lines = s.lines := rfl
@[simp] theorem State.withEnv_chans (s : State) (v : Envelope) : (s.withEnv v).chans = s.chans := rfl
@[simp] theorem State.withEnv_pulseDir (s : State) (v : Envelope) : (s.withEnv v).pulseDir = s.pulseDir := rfl
@[simp] theorem State.withEnv_di (s : State) (v : Envelope) : (s.withEnv v).di = s.di := rfl
@[simp] theorem State.withEnv_out (s : State) (v : Envelope) : (s.withEnv v).out = s.out := rfl
@[simp] theorem State.withEnv_horn (s : State) (v : Envelope) : (s.withEnv v).horn = s.horn := rfl
@[simp] theorem State.withEnv_geo (s : State) (v : Envelope) : (s.withEnv v).geo = s.geo := rfl
@[simp] theorem State.withEnv_env (s : State) (v : Envelope) : (s.withEnv v).env = v := rfl
@[simp] theorem State.withEnv_swing (s : State) (v : Envelope) : (s.withEnv v).swing = s.swing := rfl
@[simp] theorem State.withEnv_fb (s : State) (v : Envelope) : (s.withEnv v).fb = s.fb := rfl
@[simp] theorem State.withEnv_drive (s : State) (v : Envelope) : (s.withEnv v).drive = s.drive := rfl
@[simp] theorem State.withEnv_brakes (s : State) (v : Envelope) : (s.withEnv v).brakes = s.brakes := rfl
@[simp] theorem State.withEnv_walk (s : State) (v : Envelope) : (s.withEnv v).walk = s.walk := rfl
@[simp] theorem State.withEnv_budget (s : State) (v : Envelope) : (s.withEnv v).budget = s.budget := rfl
@[simp] theorem State.withEnv_alarms (s : State) (v : Envelope) : (s.withEnv v).alarms = s.alarms := rfl
@[simp] theorem State.withEnv_trend (s : State) (v : Envelope) : (s.withEnv v).trend = s.trend := rfl
@[simp] theorem State.withEnv_ports (s : State) (v : Envelope) : (s.withEnv v).ports = s.ports := rfl
@[simp] theorem State.withEnv_store (s : State) (v : Envelope) : (s.withEnv v).store = s.store := rfl
@[simp] theorem State.withEnv_freeCount (s : State) (v : Envelope) : (s.withEnv v).freeCount = s.freeCount := rfl
@[simp] theorem State.withEnv_pending (s : State) (v : Envelope) : (s.withEnv v).pending = s.pending := rfl

@[simp] theorem State.withSwing_time (s : State) (v : SwingUnit) : (s.withSwing v).time = s.time := rfl
@[simp] theorem State.withSwing_lines (s : State) (v : SwingUnit) : (s.withSwing v).lines = s.lines := rfl
@[simp] theorem State.withSwing_chans (s : State) (v : SwingUnit) : (s.withSwing v).chans = s.chans := rfl
@[simp] theorem State.withSwing_pulseDir (s : State) (v : SwingUnit) : (s.withSwing v).pulseDir = s.pulseDir := rfl
@[simp] theorem State.withSwing_di (s : State) (v : SwingUnit) : (s.withSwing v).di = s.di := rfl
@[simp] theorem State.withSwing_out (s : State) (v : SwingUnit) : (s.withSwing v).out = s.out := rfl
@[simp] theorem State.withSwing_horn (s : State) (v : SwingUnit) : (s.withSwing v).horn = s.horn := rfl
@[simp] theorem State.withSwing_geo (s : State) (v : SwingUnit) : (s.withSwing v).geo = s.geo := rfl
@[simp] theorem State.withSwing_env (s : State) (v : SwingUnit) : (s.withSwing v).env = s.env := rfl
@[simp] theorem State.withSwing_swing (s : State) (v : SwingUnit) : (s.withSwing v).swing = v := rfl
@[simp] theorem State.withSwing_fb (s : State) (v : SwingUnit) : (s.withSwing v).fb = s.fb := rfl
@[simp] theorem State.withSwing_drive (s : State) (v : SwingUnit) : (s.withSwing v).drive = s.drive := rfl
@[simp] theorem State.withSwing_brakes (s : State) (v : SwingUnit) : (s.withSwing v).brakes = s.brakes := rfl
@[simp] theorem State.withSwing_walk (s : State) (v : SwingUnit) : (s.withSwing v).walk = s.walk := rfl
@[simp] theorem State.withSwing_budget (s : State) (v : SwingUnit) : (s.withSwing v).budget = s.budget := rfl
@[simp] theorem State.withSwing_alarms (s : State) (v : SwingUnit) : (s.withSwing v).alarms = s.alarms := rfl
@[simp] theorem State.withSwing_trend (s : State) (v : SwingUnit) : (s.withSwing v).trend = s.trend := rfl
@[simp] theorem State.withSwing_ports (s : State) (v : SwingUnit) : (s.withSwing v).ports = s.ports := rfl
@[simp] theorem State.withSwing_store (s : State) (v : SwingUnit) : (s.withSwing v).store = s.store := rfl
@[simp] theorem State.withSwing_freeCount (s : State) (v : SwingUnit) : (s.withSwing v).freeCount = s.freeCount := rfl
@[simp] theorem State.withSwing_pending (s : State) (v : SwingUnit) : (s.withSwing v).pending = s.pending := rfl

@[simp] theorem State.withFb_time (s : State) (v : Feedback) : (s.withFb v).time = s.time := rfl
@[simp] theorem State.withFb_lines (s : State) (v : Feedback) : (s.withFb v).lines = s.lines := rfl
@[simp] theorem State.withFb_chans (s : State) (v : Feedback) : (s.withFb v).chans = s.chans := rfl
@[simp] theorem State.withFb_pulseDir (s : State) (v : Feedback) : (s.withFb v).pulseDir = s.pulseDir := rfl
@[simp] theorem State.withFb_di (s : State) (v : Feedback) : (s.withFb v).di = s.di := rfl
@[simp] theorem State.withFb_out (s : State) (v : Feedback) : (s.withFb v).out = s.out := rfl
@[simp] theorem State.withFb_horn (s : State) (v : Feedback) : (s.withFb v).horn = s.horn := rfl
@[simp] theorem State.withFb_geo (s : State) (v : Feedback) : (s.withFb v).geo = s.geo := rfl
@[simp] theorem State.withFb_env (s : State) (v : Feedback) : (s.withFb v).env = s.env := rfl
@[simp] theorem State.withFb_swing (s : State) (v : Feedback) : (s.withFb v).swing = s.swing := rfl
@[simp] theorem State.withFb_fb (s : State) (v : Feedback) : (s.withFb v).fb = v := rfl
@[simp] theorem State.withFb_drive (s : State) (v : Feedback) : (s.withFb v).drive = s.drive := rfl
@[simp] theorem State.withFb_brakes (s : State) (v : Feedback) : (s.withFb v).brakes = s.brakes := rfl
@[simp] theorem State.withFb_walk (s : State) (v : Feedback) : (s.withFb v).walk = s.walk := rfl
@[simp] theorem State.withFb_budget (s : State) (v : Feedback) : (s.withFb v).budget = s.budget := rfl
@[simp] theorem State.withFb_alarms (s : State) (v : Feedback) : (s.withFb v).alarms = s.alarms := rfl
@[simp] theorem State.withFb_trend (s : State) (v : Feedback) : (s.withFb v).trend = s.trend := rfl
@[simp] theorem State.withFb_ports (s : State) (v : Feedback) : (s.withFb v).ports = s.ports := rfl
@[simp] theorem State.withFb_store (s : State) (v : Feedback) : (s.withFb v).store = s.store := rfl
@[simp] theorem State.withFb_freeCount (s : State) (v : Feedback) : (s.withFb v).freeCount = s.freeCount := rfl
@[simp] theorem State.withFb_pending (s : State) (v : Feedback) : (s.withFb v).pending = s.pending := rfl

@[simp] theorem State.withDrive_time (s : State) (v : Drive) : (s.withDrive v).time = s.time := rfl
@[simp] theorem State.withDrive_lines (s : State) (v : Drive) : (s.withDrive v).lines = s.lines := rfl
@[simp] theorem State.withDrive_chans (s : State) (v : Drive) : (s.withDrive v).chans = s.chans := rfl
@[simp] theorem State.withDrive_pulseDir (s : State) (v : Drive) : (s.withDrive v).pulseDir = s.pulseDir := rfl
@[simp] theorem State.withDrive_di (s : State) (v : Drive) : (s.withDrive v).di = s.di := rfl
@[simp] theorem State.withDrive_out (s : State) (v : Drive) : (s.withDrive v).out = s.out := rfl
@[simp] theorem State.withDrive_horn (s : State) (v : Drive) : (s.withDrive v).horn = s.horn := rfl
@[simp] theorem State.withDrive_geo (s : State) (v : Drive) : (s.withDrive v).geo = s.geo := rfl
@[simp] theorem State.withDrive_env (s : State) (v : Drive) : (s.withDrive v).env = s.env := rfl
@[simp] theorem State.withDrive_swing (s : State) (v : Drive) : (s.withDrive v).swing = s.swing := rfl
@[simp] theorem State.withDrive_fb (s : State) (v : Drive) : (s.withDrive v).fb = s.fb := rfl
@[simp] theorem State.withDrive_drive (s : State) (v : Drive) : (s.withDrive v).drive = v := rfl
@[simp] theorem State.withDrive_brakes (s : State) (v : Drive) : (s.withDrive v).brakes = s.brakes := rfl
@[simp] theorem State.withDrive_walk (s : State) (v : Drive) : (s.withDrive v).walk = s.walk := rfl
@[simp] theorem State.withDrive_budget (s : State) (v : Drive) : (s.withDrive v).budget = s.budget := rfl
@[simp] theorem State.withDrive_alarms (s : State) (v : Drive) : (s.withDrive v).alarms = s.alarms := rfl
@[simp] theorem State.withDrive_trend (s : State) (v : Drive) : (s.withDrive v).trend = s.trend := rfl
@[simp] theorem State.withDrive_ports (s : State) (v : Drive) : (s.withDrive v).ports = s.ports := rfl
@[simp] theorem State.withDrive_store (s : State) (v : Drive) : (s.withDrive v).store = s.store := rfl
@[simp] theorem State.withDrive_freeCount (s : State) (v : Drive) : (s.withDrive v).freeCount = s.freeCount := rfl
@[simp] theorem State.withDrive_pending (s : State) (v : Drive) : (s.withDrive v).pending = s.pending := rfl

@[simp] theorem State.withBrakes_time (s : State) (v : PerMotion Brake) : (s.withBrakes v).time = s.time := rfl
@[simp] theorem State.withBrakes_lines (s : State) (v : PerMotion Brake) : (s.withBrakes v).lines = s.lines := rfl
@[simp] theorem State.withBrakes_chans (s : State) (v : PerMotion Brake) : (s.withBrakes v).chans = s.chans := rfl
@[simp] theorem State.withBrakes_pulseDir (s : State) (v : PerMotion Brake) : (s.withBrakes v).pulseDir = s.pulseDir := rfl
@[simp] theorem State.withBrakes_di (s : State) (v : PerMotion Brake) : (s.withBrakes v).di = s.di := rfl
@[simp] theorem State.withBrakes_out (s : State) (v : PerMotion Brake) : (s.withBrakes v).out = s.out := rfl
@[simp] theorem State.withBrakes_horn (s : State) (v : PerMotion Brake) : (s.withBrakes v).horn = s.horn := rfl
@[simp] theorem State.withBrakes_geo (s : State) (v : PerMotion Brake) : (s.withBrakes v).geo = s.geo := rfl
@[simp] theorem State.withBrakes_env (s : State) (v : PerMotion Brake) : (s.withBrakes v).env = s.env := rfl
@[simp] theorem State.withBrakes_swing (s : State) (v : PerMotion Brake) : (s.withBrakes v).swing = s.swing := rfl
@[simp] theorem State.withBrakes_fb (s : State) (v : PerMotion Brake) : (s.withBrakes v).fb = s.fb := rfl
@[simp] theorem State.withBrakes_drive (s : State) (v : PerMotion Brake) : (s.withBrakes v).drive = s.drive := rfl
@[simp] theorem State.withBrakes_brakes (s : State) (v : PerMotion Brake) : (s.withBrakes v).brakes = v := rfl
@[simp] theorem State.withBrakes_walk (s : State) (v : PerMotion Brake) : (s.withBrakes v).walk = s.walk := rfl
@[simp] theorem State.withBrakes_budget (s : State) (v : PerMotion Brake) : (s.withBrakes v).budget = s.budget := rfl
@[simp] theorem State.withBrakes_alarms (s : State) (v : PerMotion Brake) : (s.withBrakes v).alarms = s.alarms := rfl
@[simp] theorem State.withBrakes_trend (s : State) (v : PerMotion Brake) : (s.withBrakes v).trend = s.trend := rfl
@[simp] theorem State.withBrakes_ports (s : State) (v : PerMotion Brake) : (s.withBrakes v).ports = s.ports := rfl
@[simp] theorem State.withBrakes_store (s : State) (v : PerMotion Brake) : (s.withBrakes v).store = s.store := rfl
@[simp] theorem State.withBrakes_freeCount (s : State) (v : PerMotion Brake) : (s.withBrakes v).freeCount = s.freeCount := rfl
@[simp] theorem State.withBrakes_pending (s : State) (v : PerMotion Brake) : (s.withBrakes v).pending = s.pending := rfl

@[simp] theorem State.withWalk_time (s : State) (v : Walk) : (s.withWalk v).time = s.time := rfl
@[simp] theorem State.withWalk_lines (s : State) (v : Walk) : (s.withWalk v).lines = s.lines := rfl
@[simp] theorem State.withWalk_chans (s : State) (v : Walk) : (s.withWalk v).chans = s.chans := rfl
@[simp] theorem State.withWalk_pulseDir (s : State) (v : Walk) : (s.withWalk v).pulseDir = s.pulseDir := rfl
@[simp] theorem State.withWalk_di (s : State) (v : Walk) : (s.withWalk v).di = s.di := rfl
@[simp] theorem State.withWalk_out (s : State) (v : Walk) : (s.withWalk v).out = s.out := rfl
@[simp] theorem State.withWalk_horn (s : State) (v : Walk) : (s.withWalk v).horn = s.horn := rfl
@[simp] theorem State.withWalk_geo (s : State) (v : Walk) : (s.withWalk v).geo = s.geo := rfl
@[simp] theorem State.withWalk_env (s : State) (v : Walk) : (s.withWalk v).env = s.env := rfl
@[simp] theorem State.withWalk_swing (s : State) (v : Walk) : (s.withWalk v).swing = s.swing := rfl
@[simp] theorem State.withWalk_fb (s : State) (v : Walk) : (s.withWalk v).fb = s.fb := rfl
@[simp] theorem State.withWalk_drive (s : State) (v : Walk) : (s.withWalk v).drive = s.drive := rfl
@[simp] theorem State.withWalk_brakes (s : State) (v : Walk) : (s.withWalk v).brakes = s.brakes := rfl
@[simp] theorem State.withWalk_walk (s : State) (v : Walk) : (s.withWalk v).walk = v := rfl
@[simp] theorem State.withWalk_budget (s : State) (v : Walk) : (s.withWalk v).budget = s.budget := rfl
@[simp] theorem State.withWalk_alarms (s : State) (v : Walk) : (s.withWalk v).alarms = s.alarms := rfl
@[simp] theorem State.withWalk_trend (s : State) (v : Walk) : (s.withWalk v).trend = s.trend := rfl
@[simp] theorem State.withWalk_ports (s : State) (v : Walk) : (s.withWalk v).ports = s.ports := rfl
@[simp] theorem State.withWalk_store (s : State) (v : Walk) : (s.withWalk v).store = s.store := rfl
@[simp] theorem State.withWalk_freeCount (s : State) (v : Walk) : (s.withWalk v).freeCount = s.freeCount := rfl
@[simp] theorem State.withWalk_pending (s : State) (v : Walk) : (s.withWalk v).pending = s.pending := rfl

@[simp] theorem State.withBudget_time (s : State) (v : Budget) : (s.withBudget v).time = s.time := rfl
@[simp] theorem State.withBudget_lines (s : State) (v : Budget) : (s.withBudget v).lines = s.lines := rfl
@[simp] theorem State.withBudget_chans (s : State) (v : Budget) : (s.withBudget v).chans = s.chans := rfl
@[simp] theorem State.withBudget_pulseDir (s : State) (v : Budget) : (s.withBudget v).pulseDir = s.pulseDir := rfl
@[simp] theorem State.withBudget_di (s : State) (v : Budget) : (s.withBudget v).di = s.di := rfl
@[simp] theorem State.withBudget_out (s : State) (v : Budget) : (s.withBudget v).out = s.out := rfl
@[simp] theorem State.withBudget_horn (s : State) (v : Budget) : (s.withBudget v).horn = s.horn := rfl
@[simp] theorem State.withBudget_geo (s : State) (v : Budget) : (s.withBudget v).geo = s.geo := rfl
@[simp] theorem State.withBudget_env (s : State) (v : Budget) : (s.withBudget v).env = s.env := rfl
@[simp] theorem State.withBudget_swing (s : State) (v : Budget) : (s.withBudget v).swing = s.swing := rfl
@[simp] theorem State.withBudget_fb (s : State) (v : Budget) : (s.withBudget v).fb = s.fb := rfl
@[simp] theorem State.withBudget_drive (s : State) (v : Budget) : (s.withBudget v).drive = s.drive := rfl
@[simp] theorem State.withBudget_brakes (s : State) (v : Budget) : (s.withBudget v).brakes = s.brakes := rfl
@[simp] theorem State.withBudget_walk (s : State) (v : Budget) : (s.withBudget v).walk = s.walk := rfl
@[simp] theorem State.withBudget_budget (s : State) (v : Budget) : (s.withBudget v).budget = v := rfl
@[simp] theorem State.withBudget_alarms (s : State) (v : Budget) : (s.withBudget v).alarms = s.alarms := rfl
@[simp] theorem State.withBudget_trend (s : State) (v : Budget) : (s.withBudget v).trend = s.trend := rfl
@[simp] theorem State.withBudget_ports (s : State) (v : Budget) : (s.withBudget v).ports = s.ports := rfl
@[simp] theorem State.withBudget_store (s : State) (v : Budget) : (s.withBudget v).store = s.store := rfl
@[simp] theorem State.withBudget_freeCount (s : State) (v : Budget) : (s.withBudget v).freeCount = s.freeCount := rfl
@[simp] theorem State.withBudget_pending (s : State) (v : Budget) : (s.withBudget v).pending = s.pending := rfl

@[simp] theorem State.withAlarms_time (s : State) (v : Alarms) : (s.withAlarms v).time = s.time := rfl
@[simp] theorem State.withAlarms_lines (s : State) (v : Alarms) : (s.withAlarms v).lines = s.lines := rfl
@[simp] theorem State.withAlarms_chans (s : State) (v : Alarms) : (s.withAlarms v).chans = s.chans := rfl
@[simp] theorem State.withAlarms_pulseDir (s : State) (v : Alarms) : (s.withAlarms v).pulseDir = s.pulseDir := rfl
@[simp] theorem State.withAlarms_di (s : State) (v : Alarms) : (s.withAlarms v).di = s.di := rfl
@[simp] theorem State.withAlarms_out (s : State) (v : Alarms) : (s.withAlarms v).out = s.out := rfl
@[simp] theorem State.withAlarms_horn (s : State) (v : Alarms) : (s.withAlarms v).horn = s.horn := rfl
@[simp] theorem State.withAlarms_geo (s : State) (v : Alarms) : (s.withAlarms v).geo = s.geo := rfl
@[simp] theorem State.withAlarms_env (s : State) (v : Alarms) : (s.withAlarms v).env = s.env := rfl
@[simp] theorem State.withAlarms_swing (s : State) (v : Alarms) : (s.withAlarms v).swing = s.swing := rfl
@[simp] theorem State.withAlarms_fb (s : State) (v : Alarms) : (s.withAlarms v).fb = s.fb := rfl
@[simp] theorem State.withAlarms_drive (s : State) (v : Alarms) : (s.withAlarms v).drive = s.drive := rfl
@[simp] theorem State.withAlarms_brakes (s : State) (v : Alarms) : (s.withAlarms v).brakes = s.brakes := rfl
@[simp] theorem State.withAlarms_walk (s : State) (v : Alarms) : (s.withAlarms v).walk = s.walk := rfl
@[simp] theorem State.withAlarms_budget (s : State) (v : Alarms) : (s.withAlarms v).budget = s.budget := rfl
@[simp] theorem State.withAlarms_alarms (s : State) (v : Alarms) : (s.withAlarms v).alarms = v := rfl
@[simp] theorem State.withAlarms_trend (s : State) (v : Alarms) : (s.withAlarms v).trend = s.trend := rfl
@[simp] theorem State.withAlarms_ports (s : State) (v : Alarms) : (s.withAlarms v).ports = s.ports := rfl
@[simp] theorem State.withAlarms_store (s : State) (v : Alarms) : (s.withAlarms v).store = s.store := rfl
@[simp] theorem State.withAlarms_freeCount (s : State) (v : Alarms) : (s.withAlarms v).freeCount = s.freeCount := rfl
@[simp] theorem State.withAlarms_pending (s : State) (v : Alarms) : (s.withAlarms v).pending = s.pending := rfl

@[simp] theorem State.withTrend_time (s : State) (v : Trend) : (s.withTrend v).time = s.time := rfl
@[simp] theorem State.withTrend_lines (s : State) (v : Trend) : (s.withTrend v).lines = s.lines := rfl
@[simp] theorem State.withTrend_chans (s : State) (v : Trend) : (s.withTrend v).chans = s.chans := rfl
@[simp] theorem State.withTrend_pulseDir (s : State) (v : Trend) : (s.withTrend v).pulseDir = s.pulseDir := rfl
@[simp] theorem State.withTrend_di (s : State) (v : Trend) : (s.withTrend v).di = s.di := rfl
@[simp] theorem State.withTrend_out (s : State) (v : Trend) : (s.withTrend v).out = s.out := rfl
@[simp] theorem State.withTrend_horn (s : State) (v : Trend) : (s.withTrend v).horn = s.horn := rfl
@[simp] theorem State.withTrend_geo (s : State) (v : Trend) : (s.withTrend v).geo = s.geo := rfl
@[simp] theorem State.withTrend_env (s : State) (v : Trend) : (s.withTrend v).env = s.env := rfl
@[simp] theorem State.withTrend_swing (s : State) (v : Trend) : (s.withTrend v).swing = s.swing := rfl
@[simp] theorem State.withTrend_fb (s : State) (v : Trend) : (s.withTrend v).fb = s.fb := rfl
@[simp] theorem State.withTrend_drive (s : State) (v : Trend) : (s.withTrend v).drive = s.drive := rfl
@[simp] theorem State.withTrend_brakes (s : State) (v : Trend) : (s.withTrend v).brakes = s.brakes := rfl
@[simp] theorem State.withTrend_walk (s : State) (v : Trend) : (s.withTrend v).walk = s.walk := rfl
@[simp] theorem State.withTrend_budget (s : State) (v : Trend) : (s.withTrend v).budget = s.budget := rfl
@[simp] theorem State.withTrend_alarms (s : State) (v : Trend) : (s.withTrend v).alarms = s.alarms := rfl
@[simp] theorem State.withTrend_trend (s : State) (v : Trend) : (s.withTrend v).trend = v := rfl
@[simp] theorem State.withTrend_ports (s : State) (v : Trend) : (s.withTrend v).ports = s.ports := rfl
@[simp] theorem State.withTrend_store (s : State) (v : Trend) : (s.withTrend v).store = s.store := rfl
@[simp] theorem State.withTrend_freeCount (s : State) (v : Trend) : (s.withTrend v).freeCount = s.freeCount := rfl
@[simp] theorem State.withTrend_pending (s : State) (v : Trend) : (s.withTrend v).pending = s.pending := rfl

@[simp] theorem State.withPorts_time (s : State) (v : Ports) : (s.withPorts v).time = s.time := rfl
@[simp] theorem State.withPorts_lines (s : State) (v : Ports) : (s.withPorts v).lines = s.lines := rfl
@[simp] theorem State.withPorts_chans (s : State) (v : Ports) : (s.withPorts v).chans = s.chans := rfl
@[simp] theorem State.withPorts_pulseDir (s : State) (v : Ports) : (s.withPorts v).pulseDir = s.pulseDir := rfl
@[simp] theorem State.withPorts_di (s : State) (v : Ports) : (s.withPorts v).di = s.di := rfl
@[simp] theorem State.withPorts_out (s : State) (v : Ports) : (s.withPorts v).out = s.out := rfl
@[simp] theorem State.withPorts_horn (s : State) (v : Ports) : (s.withPorts v).horn = s.horn := rfl
@[simp] theorem State.withPorts_geo (s : State) (v : Ports) : (s.withPorts v).geo = s.geo := rfl
@[simp] theorem State.withPorts_env (s : State) (v : Ports) : (s.withPorts v).env = s.env := rfl
@[simp] theorem State.withPorts_swing (s : State) (v : Ports) : (s.withPorts v).swing = s.swing := rfl
@[simp] theorem State.withPorts_fb (s : State) (v : Ports) : (s.withPorts v).fb = s.fb := rfl
@[simp] theorem State.withPorts_drive (s : State) (v : Ports) : (s.withPorts v).drive = s.drive := rfl
@[simp] theorem State.withPorts_brakes (s : State) (v : Ports) : (s.withPorts v).brakes = s.brakes := rfl
@[simp] theorem State.withPorts_walk (s : State) (v : Ports) : (s.withPorts v).walk = s.walk := rfl
@[simp] theorem State.withPorts_budget (s : State) (v : Ports) : (s.withPorts v).budget = s.budget := rfl
@[simp] theorem State.withPorts_alarms (s : State) (v : Ports) : (s.withPorts v).alarms = s.alarms := rfl
@[simp] theorem State.withPorts_trend (s : State) (v : Ports) : (s.withPorts v).trend = s.trend := rfl
@[simp] theorem State.withPorts_ports (s : State) (v : Ports) : (s.withPorts v).ports = v := rfl
@[simp] theorem State.withPorts_store (s : State) (v : Ports) : (s.withPorts v).store = s.store := rfl
@[simp] theorem State.withPorts_freeCount (s : State) (v : Ports) : (s.withPorts v).freeCount = s.freeCount := rfl
@[simp] theorem State.withPorts_pending (s : State) (v : Ports) : (s.withPorts v).pending = s.pending := rfl

@[simp] theorem State.withStore_time (s : State) (v : Store) : (s.withStore v).time = s.time := rfl
@[simp] theorem State.withStore_lines (s : State) (v : Store) : (s.withStore v).lines = s.lines := rfl
@[simp] theorem State.withStore_chans (s : State) (v : Store) : (s.withStore v).chans = s.chans := rfl
@[simp] theorem State.withStore_pulseDir (s : State) (v : Store) : (s.withStore v).pulseDir = s.pulseDir := rfl
@[simp] theorem State.withStore_di (s : State) (v : Store) : (s.withStore v).di = s.di := rfl
@[simp] theorem State.withStore_out (s : State) (v : Store) : (s.withStore v).out = s.out := rfl
@[simp] theorem State.withStore_horn (s : State) (v : Store) : (s.withStore v).horn = s.horn := rfl
@[simp] theorem State.withStore_geo (s : State) (v : Store) : (s.withStore v).geo = s.geo := rfl
@[simp] theorem State.withStore_env (s : State) (v : Store) : (s.withStore v).env = s.env := rfl
@[simp] theorem State.withStore_swing (s : State) (v : Store) : (s.withStore v).swing = s.swing := rfl
@[simp] theorem State.withStore_fb (s : State) (v : Store) : (s.withStore v).fb = s.fb := rfl
@[simp] theorem State.withStore_drive (s : State) (v : Store) : (s.withStore v).drive = s.drive := rfl
@[simp] theorem State.withStore_brakes (s : State) (v : Store) : (s.withStore v).brakes = s.brakes := rfl
@[simp] theorem State.withStore_walk (s : State) (v : Store) : (s.withStore v).walk = s.walk := rfl
@[simp] theorem State.withStore_budget (s : State) (v : Store) : (s.withStore v).budget = s.budget := rfl
@[simp] theorem State.withStore_alarms (s : State) (v : Store) : (s.withStore v).alarms = s.alarms := rfl
@[simp] theorem State.withStore_trend (s : State) (v : Store) : (s.withStore v).trend = s.trend := rfl
@[simp] theorem State.withStore_ports (s : State) (v : Store) : (s.withStore v).ports = s.ports := rfl
@[simp] theorem State.withStore_store (s : State) (v : Store) : (s.withStore v).store = v := rfl
@[simp] theorem State.withStore_freeCount (s : State) (v : Store) : (s.withStore v).freeCount = s.freeCount := rfl
@[simp] theorem State.withStore_pending (s : State) (v : Store) : (s.withStore v).pending = s.pending := rfl

@[simp] theorem State.withFreeCount_time (s : State) (v : Nat) : (s.withFreeCount v).time = s.time := rfl
@[simp] theorem State.withFreeCount_lines (s : State) (v : Nat) : (s.withFreeCount v).lines = s.lines := rfl
@[simp] theorem State.withFreeCount_chans (s : State) (v : Nat) : (s.withFreeCount v).chans = s.chans := rfl
@[simp] theorem State.withFreeCount_pulseDir (s : State) (v : Nat) : (s.withFreeCount v).pulseDir = s.pulseDir := rfl
@[simp] theorem State.withFreeCount_di (s : State) (v : Nat) : (s.withFreeCount v).di = s.di := rfl
@[simp] theorem State.withFreeCount_out (s : State) (v : Nat) : (s.withFreeCount v).out = s.out := rfl
@[simp] theorem State.withFreeCount_horn (s : State) (v : Nat) : (s.withFreeCount v).horn = s.horn := rfl
@[simp] theorem State.withFreeCount_geo (s : State) (v : Nat) : (s.withFreeCount v).geo = s.geo := rfl
@[simp] theorem State.withFreeCount_env (s : State) (v : Nat) : (s.withFreeCount v).env = s.env := rfl
@[simp] theorem State.withFreeCount_swing (s : State) (v : Nat) : (s.withFreeCount v).swing = s.swing := rfl
@[simp] theorem State.withFreeCount_fb (s : State) (v : Nat) : (s.withFreeCount v).fb = s.fb := rfl
@[simp] theorem State.withFreeCount_drive (s : State) (v : Nat) : (s.withFreeCount v).drive = s.drive := rfl
@[simp] theorem State.withFreeCount_brakes (s : State) (v : Nat) : (s.withFreeCount v).brakes = s.brakes := rfl
@[simp] theorem State.withFreeCount_walk (s : State) (v : Nat) : (s.withFreeCount v).walk = s.walk := rfl
@[simp] theorem State.withFreeCount_budget (s : State) (v : Nat) : (s.withFreeCount v).budget = s.budget := rfl
@[simp] theorem State.withFreeCount_alarms (s : State) (v : Nat) : (s.withFreeCount v).alarms = s.alarms := rfl
@[simp] theorem State.withFreeCount_trend (s : State) (v : Nat) : (s.withFreeCount v).trend = s.trend := rfl
@[simp] theorem State.withFreeCount_ports (s : State) (v : Nat) : (s.withFreeCount v).ports = s.ports := rfl
@[simp] theorem State.withFreeCount_store (s : State) (v : Nat) : (s.withFreeCount v).store = s.store := rfl
@[simp] theorem State.withFreeCount_freeCount (s : State) (v : Nat) : (s.withFreeCount v).freeCount = v := rfl
@[simp] theorem State.withFreeCount_pending (s : State) (v : Nat) : (s.withFreeCount v).pending = s.pending := rfl

@[simp] theorem State.withPending_time (s : State) (v : List Instr) : (s.withPending v).time = s.time := rfl
@[simp] theorem State.withPending_lines (s : State) (v : List Instr) : (s.withPending v).lines = s.lines := rfl
@[simp] theorem State.withPending_chans (s : State) (v : List Instr) : (s.withPending v).chans = s.chans := rfl
@[simp] theorem State.withPending_pulseDir (s : State) (v : List Instr) : (s.withPending v).pulseDir = s.pulseDir := rfl
@[simp] theorem State.withPending_di (s : State) (v : List Instr) : (s.withPending v).di = s.di := rfl
@[simp] theorem State.withPending_out (s : State) (v : List Instr) : (s.withPending v).out = s.out := rfl
@[simp] theorem State.withPending_horn (s : State) (v : List Instr) : (s.withPending v).horn = s.horn := rfl
@[simp] theorem State.withPending_geo (s : State) (v : List Instr) : (s.withPending v).geo = s.geo := rfl
@[simp] theorem State.withPending_env (s : State) (v : List Instr) : (s.withPending v).env = s.env := rfl
@[simp] theorem State.withPending_swing (s : State) (v : List Instr) : (s.withPending v).swing = s.swing := rfl
@[simp] theorem State.withPending_fb (s : State) (v : List Instr) : (s.withPending v).fb = s.fb := rfl
@[simp] theorem State.withPending_drive (s : State) (v : List Instr) : (s.withPending v).drive = s.drive := rfl
@[simp] theorem State.withPending_brakes (s : State) (v : List Instr) : (s.withPending v).brakes = s.brakes := rfl
@[simp] theorem State.withPending_walk (s : State) (v : List Instr) : (s.withPending v).walk = s.walk := rfl
@[simp] theorem State.withPending_budget (s : State) (v : List Instr) : (s.withPending v).budget = s.budget := rfl
@[simp] theorem State.withPending_alarms (s : State) (v : List Instr) : (s.withPending v).alarms = s.alarms := rfl
@[simp] theorem State.withPending_trend (s : State) (v : List Instr) : (s.withPending v).trend = s.trend := rfl
@[simp] theorem State.withPending_ports (s : State) (v : List Instr) : (s.withPending v).ports = s.ports := rfl
@[simp] theorem State.withPending_store (s : State) (v : List Instr) : (s.withPending v).store = s.store := rfl
@[simp] theorem State.withPending_freeCount (s : State) (v : List Instr) : (s.withPending v).freeCount = s.freeCount := rfl
@[simp] theorem State.withPending_pending (s : State) (v : List Instr) : (s.withPending v).pending = v := rfl

end Sys2Proof.Machine
end

