-- ==== Sys2Proof/Laws/Alarms.lean ====
section
/-! SUPPORT. What the shared operations of the alarm list leave as it is, and what they make of the list. -/

namespace Sys2Proof.Machine

/-! ### What no change of the list touches -/

/-- Nothing differs but outputs, horn, walk unit, brakes, tables and profile, alarms, trend, the zero-pass records of the ports
and the free-choice counter, the transfer conditions staying: what a raise and the judgements after it may touch. -/
def QuietRaise (s t : State) : Prop :=
  t.time = s.time ∧ t.lines = s.lines ∧ t.chans = s.chans ∧ t.pulseDir = s.pulseDir ∧ t.di = s.di ∧ t.geo = s.geo
    ∧ t.env = s.env ∧ t.fb = s.fb ∧ t.drive = s.drive ∧ t.budget = s.budget ∧ t.ports.line = s.ports.line
    ∧ t.walk.timeoutCond = s.walk.timeoutCond ∧ t.walk.positionCond = s.walk.positionCond ∧ t.pending = s.pending

/-- Nothing differs but what a clear may touch: outputs, horn, walk unit and alarms. -/
def QuietClear (s t : State) : Prop :=
  QuietRaise s t ∧ t.brakes = s.brakes ∧ t.swing = s.swing ∧ t.store = s.store ∧ t.trend = s.trend ∧ t.ports = s.ports
    ∧ t.freeCount = s.freeCount ∧ t.out.coil = s.out.coil ∧ t.out.xfer = s.out.xfer
    ∧ t.out.driveEnable = s.out.driveEnable

/-- A raise touches nothing of a state that is the same. -/
theorem QuietRaise.refl (s : State) : QuietRaise s s := by
  simp [QuietRaise]

/-- What two changes leave as it is, their succession leaves. -/
theorem QuietRaise.trans {s t u : State} (h : QuietRaise s t) (k : QuietRaise t u) : QuietRaise s u := by
  simp only [QuietRaise] at *
  simp only [h, k, and_self]

/-- A clear touches nothing of a state that is the same. -/
theorem QuietClear.refl (s : State) : QuietClear s s := by
  simp [QuietClear, QuietRaise]

/-- What two clears leave as it is, their succession leaves. -/
theorem QuietClear.trans {s t u : State} (h : QuietClear s t) (k : QuietClear t u) : QuietClear s u := by
  simp only [QuietClear, QuietRaise] at *
  simp only [h, k, and_self]

/-- What a clear leaves as it is, a raise may leave. -/
theorem QuietClear.raise {s t : State} (h : QuietClear s t) : QuietRaise s t :=
  h.1

/-- A clear leaves the commands that wait. -/
theorem QuietClear.pending {s t : State} (h : QuietClear s t) : t.pending = s.pending := by
  simp only [QuietClear, QuietRaise] at h
  simp only [h]

/-- Each piece of work in turn leaves what each piece leaves. -/
theorem runEach_quietRaise {α : Type} {run : α → State → State} (h : ∀ x s, QuietRaise s (run x s)) (l : List α)
    (s : State) : QuietRaise s (runEach run l s) := by
  induction l generalizing s with
  | nil => exact .refl s
  | cons x l ih => exact (h x s).trans (ih _)

/-! ### Annunciation and the exit from TRANSFER_FAULT -/

/-- The horn demand changes the horn and its line only. -/
theorem setHornDemand_quiet (v : Bool) (s : State) :
    QuietClear s (setHornDemand v s) ∧ (setHornDemand v s).alarms = s.alarms ∧ (setHornDemand v s).walk = s.walk := by
  unfold setHornDemand startHornPeriod
  split
  · simp [QuietClear.refl]
  · split <;> simp [QuietClear, QuietRaise]

/-- The demands change outputs and horn only. -/
theorem annunciate_quiet (s : State) :
    QuietClear s (annunciate s) ∧ (annunciate s).alarms = s.alarms ∧ (annunciate s).walk = s.walk := by
  unfold annunciate
  obtain ⟨h, ha, hw⟩ := setHornDemand_quiet (s.annDemand .HORN) (s.withOut { s.out with
    buzzer := s.annDemand .BUZZER, red := s.annDemand .RED, amber := s.annDemand .AMBER })
  refine ⟨QuietClear.trans ?_ h, by rw [ha]; rfl, by rw [hw]; rfl⟩
  simp [QuietClear, QuietRaise]

/-- The exit from TRANSFER_FAULT changes the walk unit only: the transfer state to DIG, the steering flag judged. -/
theorem judgeTransferExit_quiet (s : State) :
    QuietClear s (judgeTransferExit s) ∧ (judgeTransferExit s).alarms = s.alarms := by
  unfold judgeTransferExit judgeSteering
  split <;> simp [QuietClear, QuietRaise]

/-- The walk unit's judgement of a removal changes the walk unit only. -/
theorem judgeRemoval_quiet (l : List AlarmEntry) (s : State) :
    QuietClear s (judgeRemoval l s) ∧ (judgeRemoval l s).alarms = s.alarms := by
  unfold judgeRemoval
  split
  · exact judgeTransferExit_quiet s
  · exact ⟨.refl s, rfl⟩

/-! ### Clear -/

/-- A clear touches outputs, horn, walk unit and alarms only, and of the alarms the list only. -/
theorem clear_quiet (c : AlarmCode) (s : State) :
    QuietClear s (clear c s) ∧ (clear c s).alarms = { s.alarms with list := clearList c s.ms s.alarms.list } := by
  unfold clear
  obtain ⟨ha, hb, _⟩ := annunciate_quiet
    (judgeRemoval s.alarms.list (s.setList (clearList c s.ms s.alarms.list)))
  obtain ⟨hc, hd⟩ := judgeRemoval_quiet s.alarms.list (s.setList (clearList c s.ms s.alarms.list))
  refine ⟨QuietClear.trans (QuietClear.trans ?_ hc) ha, by rw [hb, hd]; rfl⟩
  simp [QuietClear, QuietRaise, State.setList]

/-- A clear keeps every entry of another code. -/
theorem mem_clearList_of_ne {c : AlarmCode} {now : BitVec 32} {l : List AlarmEntry} {e : AlarmEntry} (h : e ∈ l)
    (hne : e.code ≠ c) : e ∈ clearList c now l := by
  simp only [clearList, List.mem_filterMap]
  exact ⟨e, h, by simp [hne]⟩

/-- What a clear makes of an entry has its code, class and scope. -/
theorem cleared_fits {e e' : AlarmEntry} {now : BitVec 32} (h : e.cleared now = some e') :
    e'.code = e.code ∧ e'.cls = e.cls ∧ e'.scope = e.scope := by
  unfold AlarmEntry.cleared at h
  split at h
  · cases h; simp
  · split at h <;> cases h
    simp
  · cases h; simp
  · cases h; simp

/-! ### Sequencers -/

/-- A sequencer's change of state touches that brake and its coil line only. -/
theorem setBrake_quiet (m : Motion) (st : BrakeState) (t : Timer) (s : State) : QuietRaise s (s.setBrake m st t) := by
  simp [State.setBrake, State.putBrake, QuietRaise]

/-- The activation of a READY copy changes no unit that a raise leaves as it is. -/
theorem activateReady_quiet (s : State) : QuietRaise s (activateReady s) := by
  unfold activateReady
  split
  · simp [activateCopy, State.withPendingTables, QuietRaise]
  · exact .refl s
  · exact .refl s

/-- Entry to SET. -/
theorem enterSet_quiet (m : Motion) (s : State) : QuietRaise s (enterSet m s) := by
  refine (setBrake_quiet m .SET none s).trans ?_
  cases m
  · exact .refl _
  · exact (judgeTransferExit_quiet _).1.1
  · exact activateReady_quiet _
  · exact (judgeTransferExit_quiet _).1.1

/-- The coil off. -/
theorem closeBrake_quiet (m : Motion) (s : State) : QuietRaise s (closeBrake m s) := by
  unfold closeBrake
  split
  · exact setBrake_quiet m _ _ s
  · exact enterSet_quiet m s

/-- What a TRIP entry does to a sequencer. -/
theorem tripAct_quiet (m : Motion) (s : State) : QuietRaise s (tripAct m s) := by
  unfold tripAct
  split
  · exact enterSet_quiet m s
  · exact closeBrake_quiet m s
  · exact closeBrake_quiet m s
  all_goals exact .refl s

/-- What a STOP entry does to a sequencer. -/
theorem stopAct_quiet (m : Motion) (s : State) : QuietRaise s (stopAct m s) := by
  unfold stopAct
  split
  · exact enterSet_quiet m s
  all_goals exact .refl s

/-- What an entry does to the sequencers of a set of motions. -/
theorem actOn_quiet (cls : AlarmClass) (ms : MotionSet) (s : State) : QuietRaise s (actOn cls ms s) := by
  refine runEach_quietRaise (fun m s => ?_) _ s
  cases cls
  · exact tripAct_quiet m s
  · exact stopAct_quiet m s
  · exact .refl s
  · exact .refl s

/-! ### Raise -/

/-- The trigger touches the recorder only. -/
theorem trigger_quiet (n : Nat) (s : State) : QuietRaise s (trigger n s) := by
  unfold trigger
  split <;> simp [QuietRaise]

/-- What follows an entry. -/
theorem entryEffects_quiet (c : AlarmCode) (cls : AlarmClass) (ms : MotionSet) (s : State) :
    QuietRaise s (entryEffects c cls ms s) := by
  have trip (b : Bool) (s : State) : QuietRaise s (tripEffects b c ms s) := by
    unfold tripEffects
    split
    · exact (trigger_quiet _ _).trans (actOn_quiet _ _ _)
    · exact (actOn_quiet _ _ _).trans (trigger_quiet _ _)
  unfold entryEffects
  split
  · split
    · refine QuietRaise.trans ?_ (trip _ _)
      simp [State.choose, QuietRaise]
    · exact trip _ _
  all_goals exact actOn_quiet _ _ _

/-- A raise touches none of the counting, the inputs, the positions, the limits, the feedback, the outputs of the channels,
the levels and the queue of commands. -/
theorem raiseScoped_quiet (c : AlarmCode) (scope : MotionSet) (detail : Int) (s : State) :
    QuietRaise s (raiseScoped c scope detail s) := by
  have unack (s : State) : QuietRaise s (enterUnack s) := by simp [enterUnack, QuietRaise]
  have list (l : List AlarmEntry) (s : State) : QuietRaise s (s.setList l) := by simp [State.setList, QuietRaise]
  refine QuietRaise.trans ?_ (annunciate_quiet _).1.1
  split
  · exact ((list _ s).trans (unack _)).trans (entryEffects_quiet _ _ _ _)
  · unfold raiseNew
    split
    · refine QuietRaise.trans ?_ (entryEffects_quiet _ _ _ _)
      split
      · exact ((list _ s).trans (unack _)).trans (judgeTransferExit_quiet _).1.1
      · exact (list _ s).trans (unack _)
    · simp [QuietRaise]

/-- A raise with the scope of its code touches none of them either. -/
theorem raise_quiet (c : AlarmCode) (detail : Int) (s : State) : QuietRaise s (raise c detail s) :=
  raiseScoped_quiet c _ detail s

/-! ### The raises and clears of one event -/

/-- A raise or a clear touches what a raise may touch. -/
theorem takeEvent_quiet (e : AlarmEvent) (s : State) : QuietRaise s (takeEvent e s) := by
  cases e with
  | RAISE c detail => exact raise_quiet c detail s
  | CLEAR c => exact (clear_quiet c s).1.1

/-- The raises and clears of one event, in whatever order, touch what a raise may touch. -/
theorem takeInAnyOrder_quiet (l : List AlarmEvent) (s : State) : QuietRaise s (takeInAnyOrder l s) := by
  unfold takeInAnyOrder
  split
  · exact .refl s
  · exact takeEvent_quiet _ s
  · refine QuietRaise.trans ?_ (runEach_quietRaise takeEvent_quiet _ _)
    simp [State.choose, QuietRaise]

/-- An event with nothing to raise or clear leaves the state. -/
@[simp]
theorem takeInAnyOrder_nil (s : State) : takeInAnyOrder [] s = s :=
  rfl

/-- A single raise or clear is taken as it is, with no choice drawn. -/
@[simp]
theorem takeInAnyOrder_singleton (e : AlarmEvent) (s : State) : takeInAnyOrder [e] s = takeEvent e s :=
  rfl

/-- The clear of TABLES_PENDING is due only when a READY copy has gone. -/
theorem tablesEvents_eq (s before : State) :
    s.tablesEvents before = [] ∨ before.swing.pending.isReady = true ∧ s.swing.pending.isReady = false ∧
      s.tablesEvents before = [.CLEAR .TABLES_PENDING] := by
  unfold State.tablesEvents
  cases before.swing.pending.isReady <;> cases s.swing.pending.isReady <;> simp

/-- Where no READY copy has gone, no clear of TABLES_PENDING is due. -/
theorem tablesEvents_of_same {s before : State} (h : s.swing.pending = before.swing.pending) :
    s.tablesEvents before = [] := by
  simp [State.tablesEvents, h]

/-- The clear of TABLES_PENDING touches no more than a clear may. -/
theorem clearTables_quiet (before s : State) : QuietClear s (clearTables before s) := by
  unfold clearTables
  rcases tablesEvents_eq s before with h | ⟨_, _, h⟩ <;> rw [h]
  · exact .refl s
  · exact (clear_quiet _ s).1

/-- Where no READY copy has gone, the clear of TABLES_PENDING leaves the state. -/
theorem clearTables_of_same {s before : State} (h : s.swing.pending = before.swing.pending) :
    clearTables before s = s := by
  simp [clearTables, tablesEvents_of_same h]

/-- The zero-pass judgement touches the zero-pass-wait condition besides what a raise touches. -/
theorem judgeZeroPass_quiet (s : State) : QuietRaise s (judgeZeroPass s) := by
  refine QuietRaise.trans ?_ (takeInAnyOrder_quiet _ _)
  simp [State.withZeroPassWait, QuietRaise]

/-- So does the zero-pass judgement together with the clear of TABLES_PENDING. -/
theorem judgeZeroPassSince_quiet (before s : State) : QuietRaise s (judgeZeroPassSince before s) := by
  refine QuietRaise.trans ?_ (takeInAnyOrder_quiet _ _)
  simp [State.withZeroPassWait, QuietRaise]

/-- What the blocks do at a removal. -/
theorem removalActs_quiet (l : List AlarmEntry) (s : State) : QuietRaise s (removalActs l s) := by
  have arm (s : State) : QuietRaise s (armEnded l s) := by simp [armEnded, armInterlocks, QuietRaise]
  have enable (s : State) : QuietRaise s (judgeDriveEnable s) := by simp [judgeDriveEnable, QuietRaise]
  have leave (m : Motion) (s : State) : QuietRaise s (leaveFault l m s) := by
    unfold leaveFault
    split
    · exact enterSet_quiet m s
    · exact .refl s
  exact (((arm s).trans (runEach_quietRaise leave motions _)).trans (enable _)).trans (judgeRemoval_quiet l _).1.1

/-- What follows a removal. -/
theorem afterRemoval_quiet (l : List AlarmEntry) (s : State) : QuietRaise s (afterRemoval l s) :=
  (removalActs_quiet l s).trans ((judgeZeroPassSince_quiet s _).trans (annunciate_quiet _).1.1)

/-- Room is made by at most one removal, and leaves fewer than 32 entries of a list of at most 32. -/
theorem makeRoom_length {cls : AlarmClass} {l r : List AlarmEntry} (h : makeRoom cls l = some r) (hl : l.length ≤ 32) :
    r.length < 32 ∧ r.Sublist l := by
  unfold makeRoom listSize at h
  split at h
  · cases h
    exact ⟨by assumption, List.Sublist.refl _⟩
  · split at h
    · cases h
      refine ⟨?_, List.eraseP_sublist⟩
      rename_i h1 h2
      obtain ⟨e, he, hp⟩ := List.any_eq_true.mp h2
      have := List.length_eraseP_of_mem he hp
      omega
    · cases h

end Sys2Proof.Machine
end

