-- ==== Sys2Proof/Laws/Events.lean ====
section
/-! SUPPORT. What an event, an expiry and a request make of the state around their work, and the bounds of queue and
ring. -/

namespace Sys2Proof.Machine

/-! ### Events -/

/-- The end of an event changes the list-change counter only. -/
theorem settle_eq (s s' : State) :
    settle s s' = s'.withAlarms { s'.alarms with counter := (settle s s').alarms.counter } := by
  unfold settle
  split <;> rfl

/-- The end of an event leaves everything but the alarms. -/
theorem settle_quiet (s s' : State) : QuietClear s' (settle s s') ∧ (settle s s').walk = s'.walk
    ∧ (settle s s').out = s'.out ∧ (settle s s').horn = s'.horn ∧ (settle s s').alarms.list = s'.alarms.list
    ∧ (settle s s').alarms.overflow = s'.alarms.overflow ∧ (settle s s').alarms.silence = s'.alarms.silence := by
  rw [settle_eq]
  simp [QuietClear, QuietRaise]

/-- An event with no change of list or marker ends as its work leaves it. -/
theorem settle_same {s s' : State} (h : s'.alarms.list = s.alarms.list) (k : s'.alarms.overflow = s.alarms.overflow) :
    settle s s' = s' := by
  unfold settle
  rw [if_pos ⟨h, k⟩]

/-- The end of an event touches no more than a clear may. -/
theorem endEvent_quiet (s s' : State) : QuietClear s' (endEvent s s') :=
  (clearTables_quiet s s').trans (settle_quiet s _).1

/-- Where no READY copy has gone, an event ends with the list-change counter. -/
theorem endEvent_of_same {s s' : State} (h : s'.swing.pending = s.swing.pending) : endEvent s s' = settle s s' := by
  rw [endEvent, clearTables_of_same h]

/-- An event answers a next state. -/
theorem event_next (s : State) (work : State → State) : event s work = .next (endEvent s (work s)) :=
  rfl

/-- The expiry command of a running timer answers a next state, its time moved to the expiry. -/
theorem expiry_some (s : State) (d : Nat) (work : State → State) :
    expiry s (some d) work = .next (endEvent s (work (s.moveTo d))) :=
  rfl

/-- The expiry command of a stopped timer changes nothing. -/
theorem expiry_none (s : State) (work : State → State) : expiry s none work = .next s :=
  rfl

/-- A move to an expiry changes the time only, and never back. -/
theorem moveTo_time (s : State) (d : Nat) : (s.moveTo d).time = max s.time d ∧ s.time ≤ (s.moveTo d).time :=
  ⟨rfl, Nat.le_max_left _ _⟩

/-- Work that leaves the commands that wait, done as an event, leaves them. -/
theorem event_pending {s t : State} {work : State → State} (h : event s work = .next t)
    (hw : (work s).pending = s.pending) : t.pending = s.pending := by
  rw [event_next] at h
  cases h
  exact (endEvent_quiet s _).pending.trans hw

/-- Work that leaves the commands that wait, done as an expiry, leaves them. -/
theorem expiry_pending {s t : State} {tm : Timer} {work : State → State} (h : expiry s tm work = .next t)
    (hw : ∀ u, (work u).pending = u.pending) : t.pending = s.pending := by
  cases tm with
  | none =>
    cases h
    rfl
  | some d =>
    cases h
    exact (endEvent_quiet s _).pending.trans (hw _)

/-! ### Requests -/

/-- A frame that joins a queue is its last one and touches nothing but that port. -/
theorem enqueue_tx (p : Port) (f : TxFrame) (s : State) :
    ((enqueue p f s).port p).tx = (s.port p).tx ++ [f] ∧ (∀ x, x ≠ p → (enqueue p f s).port x = s.port x) ∧
      enqueue p f s = s.withPorts { s.ports with line := (enqueue p f s).ports.line } := by
  refine ⟨?_, fun x hx => ?_, rfl⟩
  · cases p <;> rfl
  · cases p <;> cases x <;> first | rfl | exact absurd rfl hx

/-- A reply joins the queue of its master's port and touches the ports only. -/
theorem reply_eq (m : Master) (k : Byte) (r : ReplyResult) (d : Int) (s : State) :
    reply m k r d s = enqueue m.port (.reply k r d) s :=
  rfl

/-- A request that finds room and has its length is judged in the state its arrival leaves. -/
theorem request_judged (m : Master) (k : Byte) (p : List Byte) (judge : State → State) (s : State)
    (h : (frameHeard m s).queueFull m.port = false) : request m k p p.length judge s = judge (frameHeard m s) := by
  simp [request, unlessFull, ofLength, h]

/-- A request that finds 8 frames in the queue is dropped. -/
theorem request_dropped (m : Master) (k : Byte) (p : List Byte) (n : Nat) (judge : State → State) (s : State)
    (h : (frameHeard m s).queueFull m.port = true) : request m k p n judge s = frameHeard m s := by
  simp [request, unlessFull, h]

/-- A request of another length is answered BAD_LENGTH. -/
theorem request_badLength (m : Master) (k : Byte) (p : List Byte) (n : Nat) (judge : State → State) (s : State)
    (h : (frameHeard m s).queueFull m.port = false) (hn : p.length ≠ n) :
    request m k p n judge s = reply m k .BAD_LENGTH p.length (frameHeard m s) := by
  simp [request, unlessFull, ofLength, h, hn]

/-- A receiver in HUNT is what its port has after a valid frame; nothing else of the ports differs. -/
theorem setReceiver_eq (s : State) (p : Port) (r : Receiver) :
    ((s.setReceiver p r).port p).rx = r ∧ ((s.setReceiver p r).port p).tx = (s.port p).tx ∧
      (∀ x, x ≠ p → (s.setReceiver p r).port x = s.port x) ∧
      s.setReceiver p r = s.withPorts { s.ports with line := (s.setReceiver p r).ports.line } := by
  refine ⟨?_, ?_, fun x hx => ?_, rfl⟩
  · cases p <;> rfl
  · cases p <;> rfl
  · cases p <;> cases x <;> first | rfl | exact absurd rfl hx

/-- A frame at the CAB port returns its receiver to HUNT and does nothing else. -/
theorem frameHeard_cab (s : State) : frameHeard .CAB s = s.setReceiver .CAB .HUNT :=
  rfl

/-- The arrival of a frame at the SERVICE port touches its timer, the condition of SERVICE_LINK_LOST and what the clear of
that code touches. -/
theorem serviceHeard_quiet (s : State) :
    (serviceHeard (restartServiceTimer s)).ports.line = s.ports.line ∧
      (serviceHeard (restartServiceTimer s)).ports.demand = s.ports.demand ∧
      (serviceHeard (restartServiceTimer s)).ports.authority = s.ports.authority ∧
      (serviceHeard (restartServiceTimer s)).ports.interlock = s.ports.interlock ∧
      (serviceHeard (restartServiceTimer s)).ports.link = s.ports.link ∧
      (serviceHeard (restartServiceTimer s)).brakes = s.brakes ∧
      (serviceHeard (restartServiceTimer s)).swing = s.swing ∧
      QuietRaise s (serviceHeard (restartServiceTimer s)) := by
  have hr : restartServiceTimer s = s.withPorts
      { s.ports with serviceTimer := (restartServiceTimer s).ports.serviceTimer } := by
    unfold restartServiceTimer
    split <;> rfl
  rw [hr]
  unfold serviceHeard
  split
  · obtain ⟨hq, _⟩ := clear_quiet .SERVICE_LINK_LOST
      ((s.withPorts { s.ports with serviceTimer := (restartServiceTimer s).ports.serviceTimer }).withPorts
        { s.ports with serviceTimer := (restartServiceTimer s).ports.serviceTimer, serviceLost := false })
    rw [settle_eq]
    simp only [QuietClear, QuietRaise] at hq
    simp [QuietRaise, hq]
  · simp [QuietRaise]

/-- The arrival of a frame returns its port's receiver to HUNT and leaves every queue, the demands, the authority, the
interlocks, the drive link, the brakes and the tables. -/
theorem frameHeard_ports (m : Master) (s : State) :
    (frameHeard m s).ports.line = (s.setReceiver m.port .HUNT).ports.line ∧
      (frameHeard m s).ports.demand = s.ports.demand ∧ (frameHeard m s).ports.authority = s.ports.authority ∧
      (frameHeard m s).ports.interlock = s.ports.interlock ∧ (frameHeard m s).ports.link = s.ports.link ∧
      (frameHeard m s).brakes = s.brakes ∧ (frameHeard m s).swing = s.swing ∧
      QuietRaise (s.setReceiver m.port .HUNT) (frameHeard m s) := by
  cases m
  · exact ⟨rfl, rfl, rfl, rfl, rfl, rfl, rfl, .refl _⟩
  · exact serviceHeard_quiet (s.setReceiver .SERVICE .HUNT)

/-- A queue within its 8 frames stays so when a periodic frame joins it. -/
theorem putPeriodic_length {which : TxFrame → Bool} {f : TxFrame} {q : List TxFrame} (h : q.length ≤ 8) :
    (putPeriodic which f q).length ≤ 8 := by
  have hr : ∀ l : List TxFrame, (replaceFirst which f l).length = l.length := by
    intro l
    induction l with
    | nil => rfl
    | cons g l ih =>
      unfold replaceFirst
      split <;> simp [ih]
  unfold putPeriodic queueSize
  split
  · simp only [List.length_append, List.length_take, hr, List.length_tail]
    omega
  · split
    · exact h
    · simp only [List.length_append, List.length_singleton]
      omega

/-! ### The ring -/

/-- A ring within its 256 records stays so when a record is put in. -/
theorem putRecord_length {r : TrendRecord} {ring : List TrendRecord} (h : ring.length ≤ 256) :
    (putRecord r ring).length ≤ 256 := by
  unfold putRecord ringSize
  split
  · split
    · simp only [List.length_append, List.length_dropLast, List.length_singleton]
      rename_i n hn _
      have : ring ≠ [] := by
        rintro rfl
        cases hn
      have := List.length_pos_iff.mpr this
      omega
    · split <;> simp only [List.length_append, List.length_drop, List.length_singleton] <;> omega
  · simp

/-! ### Free orders -/

/-- Putting an element in gives a rearrangement. -/
theorem insertAt_perm {α : Type} (x : α) : ∀ (n : Nat) (l : List α), (insertAt n x l).Perm (x :: l)
  | 0, _ => .refl _
  | _ + 1, [] => .refl _
  | n + 1, y :: l => ((insertAt_perm x n l).cons y).trans (.swap x y l)

/-- Every order that a number selects is a rearrangement. -/
theorem shuffle_perm {α : Type} : ∀ (l : List α) (n : Nat), (shuffle l n).Perm l
  | [], _ => .refl _
  | x :: l, _ => (insertAt_perm x _ _).trans ((shuffle_perm l _).cons x)

/-- A shuffled list has the elements it had. -/
@[simp]
theorem mem_shuffle {α : Type} {x : α} {l : List α} {n : Nat} : x ∈ shuffle l n ↔ x ∈ l :=
  (shuffle_perm l n).mem_iff

end Sys2Proof.Machine
end

