-- ==== Sys2Proof/Laws/Per.lean ====
section
/-! SUPPORT. Reading after writing: one value per motion, channel, line, input and parameter. -/

namespace Sys2Proof.Machine

/-- The value of a motion after one motion's is replaced. -/
@[simp] theorem PerMotion.get_set {α : Type} (p : PerMotion α) (m x : Motion) (v : α) :
    (p.set m v).get x = if x = m then v else p.get x := by
  cases m <;> cases x <;> rfl

/-- The value of a motion of values formed for each. -/
@[simp] theorem PerMotion.get_of {α : Type} (f : Motion → α) (m : Motion) : (PerMotion.of f).get m = f m := by
  cases m <;> rfl

/-- The value of a motion when all are the same. -/
@[simp] theorem PerMotion.get_all {α : Type} (v : α) (m : Motion) : (PerMotion.all v).get m = v := by
  cases m <;> rfl

/-- Values per motion are equal when each is. -/
theorem PerMotion.ext_get {α : Type} {p q : PerMotion α} (h : ∀ m, p.get m = q.get m) : p = q := by
  have hH := h .H
  have hD := h .D
  have hS := h .S
  have hW := h .W
  cases p
  cases q
  simp only [PerMotion.get] at hH hD hS hW
  rw [hH, hD, hS, hW]

/-- The value of a channel after one channel's is replaced. -/
@[simp] theorem PerChannel.get_set {α : Type} (p : PerChannel α) (c x : Channel) (v : α) :
    (p.set c v).get x = if x = c then v else p.get x := by
  cases c <;> cases x <;> rfl

/-- The value of a channel of values formed for each. -/
@[simp] theorem PerChannel.get_of {α : Type} (f : Channel → α) (c : Channel) : (PerChannel.of f).get c = f c := by
  cases c <;> rfl

/-- The value of a channel when all are the same. -/
@[simp] theorem PerChannel.get_all {α : Type} (v : α) (c : Channel) : (PerChannel.all v).get c = v := by
  cases c <;> rfl

/-- The value of a counting channel after one's is replaced. -/
@[simp] theorem PerCount.get_set {α : Type} (p : PerCount α) (c x : CountCh) (v : α) :
    (p.set c v).get x = if x = c then v else p.get x := by
  cases c <;> cases x <;> rfl

/-- The value of a counting channel when all are the same. -/
@[simp] theorem PerCount.get_all {α : Type} (v : α) (c : CountCh) : (PerCount.all v).get c = v := by
  cases c <;> rfl

/-- The value of a port after one port's is replaced. -/
@[simp] theorem PerPort.get_set {α : Type} (p : PerPort α) (c x : Port) (v : α) :
    (p.set c v).get x = if x = c then v else p.get x := by
  cases c <;> cases x <;> rfl

/-- The value of a master after one master's is replaced. -/
@[simp] theorem PerMaster.get_set {α : Type} (p : PerMaster α) (c x : Master) (v : α) :
    (p.set c v).get x = if x = c then v else p.get x := by
  cases c <;> cases x <;> rfl

/-- The value of a cam after one cam's is replaced. -/
@[simp] theorem PerCam.get_set {α : Type} (p : PerCam α) (c x : Cam) (v : α) :
    (p.set c v).get x = if x = c then v else p.get x := by
  cases c <;> cases x <;> rfl

/-- The value of a rope after one rope's is replaced. -/
@[simp] theorem PerRope.get_set {α : Type} (p : PerRope α) (c x : Rope) (v : α) :
    (p.set c v).get x = if x = c then v else p.get x := by
  cases c <;> cases x <;> rfl

/-- The lines have places of their own. -/
theorem CountLine.index_inj {l x : CountLine} (h : l.index = x.index) : l = x := by
  cases l <;> cases x <;> first | rfl | (exact absurd h (by decide))

/-- The inputs have places of their own. -/
theorem DI.index_inj {d x : DI} (h : d.index = x.index) : d = x := by
  cases d <;> cases x <;> first | rfl | (exact absurd h (by decide))

/-- A line after one line is replaced. -/
@[simp] theorem State.line_setLine (s : State) (l x : CountLine) (v : CountInput) :
    (s.setLine l v).line x = if x = l then v else s.line x := by
  simp only [State.line, State.setLine, State.withLines_lines, Fin.getElem_fin, Vector.getElem_set]
  by_cases h : x = l
  · simp [h]
  · rw [if_neg h, if_neg]
    exact fun hi => h (CountLine.index_inj (Fin.ext hi.symm))

/-- An input after one input is replaced. -/
@[simp] theorem State.input_setInput (s : State) (d x : DI) (v : DiscreteInput) :
    (s.setInput d v).input x = if x = d then v else s.input x := by
  simp only [State.input, State.setInput, State.withDi_di, Fin.getElem_fin, Vector.getElem_set]
  by_cases h : x = d
  · simp [h]
  · rw [if_neg h, if_neg]
    exact fun hi => h (DI.index_inj (Fin.ext hi.symm))

/-- Different parameters have different places. -/
theorem Param.index_inj {q r : Param} (h : q.index = r.index) : q = r := by
  have hi : q.ctorIdx = r.ctorIdx := congrArg Fin.val h
  have back (p : Param) : Param.list[p.ctorIdx]? = some p := by
    cases p <;> rfl
  have hq := back q
  rw [hi, back r] at hq
  exact (Option.some.inj hq).symm

/-- A parameter of a profile after one is replaced. -/
@[simp] theorem Profile.get_set (w : Profile) (q r : Param) (v : Int) :
    (w.set q v).get r = if r = q then v else w.get r := by
  simp only [Profile.get, Profile.set, Fin.getElem_fin, Vector.getElem_set]
  by_cases h : r = q
  · simp [h]
  · rw [if_neg h, if_neg]
    exact fun hi => h (Param.index_inj (Fin.ext hi.symm))

/-- Every parameter stands in the list of all. -/
theorem Param.mem_list (q : Param) : q ∈ Param.list := by
  have h : Param.list[q.ctorIdx]? = some q := by cases q <;> rfl
  exact List.mem_of_getElem? h

/-- A brake after one brake is replaced. -/
@[simp] theorem State.brake_setBrake (s : State) (m x : Motion) (st : BrakeState) (t : Timer) :
    (s.setBrake m st t).brake x = if x = m then { s.brake m with state := st, timer := t } else s.brake x := by
  simp [State.setBrake, State.putBrake, State.brake]

/-- A coil line after one sequencer's change of state. -/
@[simp] theorem State.coil_setBrake (s : State) (m x : Motion) (st : BrakeState) (t : Timer) :
    (s.setBrake m st t).out.coil.get x = if x = m then st.coilOn else s.out.coil.get x := by
  simp [State.setBrake, State.putBrake]

end Sys2Proof.Machine
end

