-- ==== Sys2Proof/Laws/Store.lean ====
section
/-! SUPPORT. The check words of the profile store: which slots are valid, and what a save, its end and a late completion
make of them. -/

namespace Sys2Proof.Machine

/-! ### Slots -/

/-- A slot is valid exactly when its word is the check over its content. -/
theorem Slot.valid_iff (v : Slot) : v.valid = true ↔ v.check = crc v.content.image :=
  beq_iff_eq

/-- A saved slot is valid. -/
@[simp]
theorem Slot.saved_valid (w : Profile) : (Slot.saved w).valid = true :=
  beq_self_eq_true _

/-- A word differs from its complement. -/
theorem complement_ne (x : BitVec 16) : ~~~ x ≠ x := fun h => by
  have k := congrArg (fun y : BitVec 16 => y.getLsbD 0) h
  simp at k

/-- A slot marked invalid is invalid. -/
@[simp]
theorem Slot.marked_invalid (v : Slot) : v.marked.valid = false :=
  beq_eq_false_iff_ne.mpr (complement_ne _)

/-- A slot marked invalid keeps its content. -/
@[simp]
theorem Slot.marked_content (v : Slot) : v.marked.content = v.content :=
  rfl

/-! ### The store -/

/-- Slot 0 is always valid. -/
@[simp]
theorem Store.slotValid_zero (st : Store) : st.slotValid 0 = true :=
  rfl

/-- A slot 1 to 3 is as valid as what it holds. -/
theorem Store.slotValid_eq (st : Store) {n : Nat} (h : 1 ≤ n) : st.slotValid n = (st.slot n).valid := by
  match n, h with
  | n + 1, _ => rfl

/-- A slot 1 to 3 holds what is put into it. -/
theorem Store.slot_setSlot (st : Store) {n : Nat} (v : Slot) (h : 1 ≤ n) : (st.setSlot n v).slot n = v := by
  match n, h with
  | 1, _ => rfl
  | 2, _ => rfl
  | _ + 3, _ => rfl

/-- Putting something into a slot leaves the others. -/
theorem Store.slot_setSlot_ne (st : Store) {n k : Nat} (v : Slot) (hn : n ≤ 3) (hk : k ≤ 3) (h : k ≠ n) :
    (st.setSlot n v).slot k = st.slot k := by
  match n, k, hn, hk with
  | 0, 0, _, _ | 0, 1, _, _ | 0, 2, _, _ | 0, 3, _, _ | 1, 0, _, _ | 1, 2, _, _ | 1, 3, _, _ | 2, 0, _, _ | 2, 1, _, _
  | 2, 3, _, _ | 3, 0, _, _ | 3, 1, _, _ | 3, 2, _, _ => rfl
  | 1, 1, _, _ | 2, 2, _, _ | 3, 3, _, _ => exact absurd rfl h

/-! ### Saving -/

/-- An accepted save leaves its slot invalid. -/
theorem startSave_invalid (s : State) {n : Nat} (h : 1 ≤ n) : (startSave n s).store.slotValid n = false := by
  rw [Store.slotValid_eq _ h]
  exact (congrArg Slot.valid (Store.slot_setSlot s.store (s.store.slot n).marked h)).trans (Slot.marked_invalid _)

/-- The completion of a write that has ended changes nothing. -/
theorem saveCompletes_late {c : Completion} {s : State} (h : s.store.save = .IDLE ∨ c.write ≠ s.store.writes) :
    saveCompletes c s = s := by
  unfold saveCompletes saveEnds
  rcases h with h | h
  · rw [h]
    exact ite_self s
  · exact if_neg h

end Sys2Proof.Machine
end

