-- ==== Sys2Proof/Tests/Slice0.lean ====
section
/-! SUPPORT. The model's own tests: ill-formed commands refused, worked numbers of the manual, and for every obligation
with hypotheses a state and operands that meet them. -/

namespace Sys2Proof.Tests

open Sys2Proof.Machine Sys2Proof.Safety

/-! ### Small states -/

/-- The machine at rest in dig: chain closed, contactor in dig, tub seated, lubrication and key on, nothing listed. -/
def rest : State :=
  (((((State.reset.setInput .ESTOP_OK ⟨true, true, none⟩).setInput .XFER_DIG_FB ⟨true, true, none⟩).setInput .TUB_SEATED
    ⟨true, true, none⟩).setInput .LUBE_OK ⟨true, true, none⟩).setInput .LOCAL_KEY ⟨true, true, none⟩).withAlarms
      Alarms.atReset
    |>.withWalk (Walk.atReset true)
    |>.withOut (Outputs.atReset true)
    |>.withTrend (Trend.atReset Profile.factory)
    |>.withHorn HornSwitch.atReset

/-- The machine at rest with one input about to take the other level. -/
def changing (d : DI) (s : State) : State :=
  s.setInput d ⟨!(s.input d).level, (s.input d).level, some 4000⟩

/-- A brake in a state with its timer running. -/
def braked (m : Motion) (st : BrakeState) (s : State) : State :=
  s.setBrake m st (some 4000)

/-- The transfer state replaced. -/
def inTransfer (t : TransferState) (s : State) : State :=
  setCoil (t == .TO_WALK || t == .WALK) (s.withWalk { s.walk with transfer := t, timer := some 4000 })

/-- A VALID record with both lengths on the chord. -/
def valid (s : State) : State :=
  s.withGeo { s.geo with record := ⟨.VALID, some 5000, some 5000, some ⟨2500, 4330, 2500, 0⟩, 0⟩ }

/-- The drive link in step with a stored record. -/
def linked (s : State) : State :=
  (s.withPorts { s.ports with link := ⟨true, 0, 0, some 30000, false⟩ }).withFb
    ⟨PerChannel.all ⟨0, 0, true, 0⟩, .DIG, false, false⟩

/-- A list of one entry. -/
def listing (c : AlarmCode) (st : EntryState) (s : State) : State :=
  s.setList [⟨c, s.codeClass c, s.codeScope c, st, 0, 0, 1, 0⟩]

/-- A list of n entries of distinct codes from 1 on, in ACTIVE_ACK. -/
def filled (n : Nat) (s : State) : State :=
  s.setList ((([.ESTOP, .DRIVE_LINK_LOST, .DRIVE_FAULT_H, .DRIVE_FAULT_DW, .DRIVE_FAULT_S, .BRAKE_FAULT_H, .BRAKE_FAULT_D,
    .BRAKE_FAULT_S, .BRAKE_FAULT_W, .OVERHOIST, .BOOM_JACK, .OVERSPEED_H, .OVERSPEED_D, .OVERSPEED_S, .TRANSFER_TIMEOUT,
    .TRANSFER_POSITION, .CAM_SKEW, .CAB_LINK_LOST, .SERVICE_LINK_LOST, .PROOF_FAIL_H, .PROOF_FAIL_D, .LUBE_LOW] ++
    [.GEOMETRY_LOST, .ROPE_UNREF, .ROPE_SLIP_H, .ROPE_SLIP_D, .COUNT_RANGE_H, .COUNT_RANGE_D, .SWING_UNREF,
      .SWING_SLIP, .SWING_IN_ZONE, .CAM_SYNC_L] : List AlarmCode).take n).map fun c =>
    ⟨c, s.codeClass c, s.codeScope c, .ACTIVE_UNACK, 0, 0, 1, 0⟩)

/-- The same parameter of the working profile at another value. -/
def having (p : Param) (v : Int) (s : State) : State :=
  s.withStore { s.store with working := s.store.working.set p v }

/-- A port's receiver in a state. -/
def receiving (p : Port) (r : Receiver) (s : State) : State :=
  s.setPort p { s.port p with rx := r }

/-! ### Well-formedness -/

/-- A payload of 251 bytes is refused. -/
theorem test_wf_refuses_a_long_payload : (Instr.demand .CAB (List.replicate 251 0)).wf = false := by decide +kernel

/-- A payload of 250 bytes is not. -/
theorem test_wf_takes_the_longest_payload : (Instr.demand .CAB (List.replicate 250 0)).wf = true := by decide +kernel

/-- A kind that the port accepts is no unknown kind. -/
theorem test_wf_refuses_an_accepted_kind :
    (Instr.unknownKind .CAB 0x10 []).wf = false ∧ (Instr.unknownKind .SERVICE 0x62 []).wf = false := by decide

/-- A kind that only the other port accepts is one. -/
theorem test_wf_takes_a_kind_of_another_port :
    (Instr.unknownKind .CAB 0x30 []).wf = true ∧ (Instr.unknownKind .SERVICE 0x70 []).wf = true := by decide

/-- The table gives no bits, so no word spells a command. -/
theorem test_no_word_spells_a_command : decodeTableWord 16 0 = none ∧ State.withFetchWord rest 16 0 = rest := by
  exact ⟨rfl, rfl⟩

/-! ### Arithmetic -/

/-- The check of the nine digits is 0x29B1 (10 section 10.2). -/
theorem test_check_of_nine_digits : crc [0x31, 0x32, 0x33, 0x34, 0x35, 0x36, 0x37, 0x38, 0x39] = 0x29B1 := by
  decide +kernel

/-- Roots at squares and just below them (R30). -/
theorem test_square_roots :
    isqrt 0 = 0 ∧ isqrt 1 = 1 ∧ isqrt 3 = 1 ∧ isqrt 4 = 2 ∧ isqrt 899999999 = 29999 ∧ isqrt 900000000 = 30000 := by
  decide

/-- Ties go away from zero (00 section 4.4). -/
theorem test_rounding : roundDiv 5 2 = 3 ∧ roundDiv (-5) 2 = -3 ∧ roundDiv 4 3 = 1 ∧ roundDiv (-4) 3 = -1 := by decide

/-- The shortest difference at its ends (00 section 4.4). -/
theorem test_angular_difference :
    angDiff 1800 0 = -1800 ∧ angDiff 1799 0 = 1799 ∧ angDiff 0 3599 = 1 ∧ angDiff 3599 0 = -1 := by decide

/-- The order of the curtailment in CURTAIL_ORDER 27 is SWING, DRAG_WALK, HOIST (11 section 11.5). -/
theorem test_curtail_order : curtailOrderOf 27 = [.SWING, .DRAG_WALK, .HOIST] := by decide

/-! ### Frames -/

/-- The payloads have the lengths of 10 section 10.9: STATUS 32, REPLY 4, REFERENCE 10, PARAM_VALUE 6, an entry 15, a
record 34. -/
theorem test_payload_lengths :
    rest.statusContent.bytes.length = 32 ∧ (TxFrame.reply 0x10 .OK 0).payload.length = 4 ∧
    (TxFrame.reference (PerChannel.all ⟨0, false, false, false⟩) .DIG).payload.length = 10 ∧
    (TxFrame.paramValue 1 0).payload.length = 6 ∧
    (AlarmEntry.atReset .ESTOP .TRIP MotionSet.full 0).bytes.length = 15 ∧ TrendRecord.atReset.bytes.length = 34 := by
  decide

/-- A REPLY on the line, with its check low byte first. -/
theorem test_reply_bytes :
    (TxFrame.reply 0x30 .REFUSED_STATE 2).bytes.take 7 = [0xC3, 0x81, 4, 0x30, 4, 2, 0] := by decide

/-- Signed fields are two's complement, least significant byte first. -/
theorem test_fields : le16 (-32768) = [0x00, 0x80] ∧ s16 [0xFE, 0xFF] 0 = -2 ∧ u16 [1, 2] 0 = 513 := by decide

/-! ### Reset -/

/-- State.reset is the state after RESET on its own pins. -/
theorem test_reset_gives_State_reset : execReset State.reset = .next State.reset :=
  congrArg Host.Outcome.next (by decide +kernel : resetWork State.reset = State.reset)

/-- A closed chain and a contactor in dig leave only the two reference warnings. -/
theorem test_reset_at_rest :
    ((resetWork rest).alarms.list.map fun e => e.code) = [.ROPE_UNREF, .SWING_UNREF] ∧
      (resetWork rest).walk.transfer = .DIG ∧ (resetWork rest).out.driveEnable = true := by decide +kernel

/-! ### Worked cases -/

/-- An A edge with B low counts up, one with B high counts down (R4). -/
theorem test_quadrature_sense : stepOfA true false = .plus ∧ stepOfA true true = .minus ∧
    stepOfB true true = .plus ∧ stepOfB true false = .minus := by decide

/-- The hoist count stays at its limit, and the range condition appears with its alarm (R8). -/
theorem test_count_saturates :
    let s := countedEdge .HOIST .plus (rest.setCount .HOIST 2147483647)
    (s.chan .HOIST).count = 2147483647 ∧ (s.chan .HOIST).rangeCond = true ∧ s.listed .COUNT_RANGE_H = true := by
  decide

/-- The codes listed after raises and clears taken in the order given. -/
def codesAfter (events : List AlarmEvent) (s : State) : List AlarmCode :=
  (runEach takeEvent events s).alarms.list.map fun e => e.code

/-- An edge that loses a step beyond the speed threshold lists its two codes in either order (R150, log entry 4). -/
theorem test_edge_alarms_in_either_order :
    let edge := markEdge .HOIST .plus (stepCount .HOIST .plus
      ((rest.setChan .HOIST ⟨2147483647, .plus, [1999], 0, false, none, false⟩).withTime 4000))
    let events := edge.rangeEvents .HOIST .plus false ++ edge.overspeedEvents .HOIST
    events.length = 2 ∧ codesAfter events edge = [.COUNT_RANGE_H, .OVERSPEED_H] ∧
      codesAfter events.reverse edge = [.OVERSPEED_H, .COUNT_RANGE_H] := by
  decide

/-- In a full list the clear of TABLES_PENDING makes the room for ZERO_PASS_WAIT, or comes after the eviction of another entry
(R135, R150, log entry 4). -/
theorem test_tables_and_zero_pass_in_either_order :
    let full := (filled 30 rest).setList ((filled 30 rest).alarms.list ++
      [⟨.JACK_ZONE, .INFO, MotionSet.none, .CLEARED_UNACK, 0, 0, 1, 0⟩,
        ⟨.TABLES_PENDING, .INFO, MotionSet.none, .ACTIVE_ACK, 0, 0, 1, 0⟩])
    let s := full.withPorts { full.ports with interlock := MotionSet.full
                                              demand := ⟨⟨PerMotion.all 100, none, false⟩, ⟨PerMotion.all 0, none, false⟩⟩ }
    let before := s.withPendingTables (.READY (PendingCopy.ofActive s.store.working.tables))
    let events := s.zeroPassEvents ++ s.tablesEvents before
    events = [.RAISE .ZERO_PASS_WAIT 15, .CLEAR .TABLES_PENDING] ∧ .JACK_ZONE ∉ codesAfter events s ∧
      .JACK_ZONE ∈ codesAfter events.reverse s := by
  decide +kernel

/-- A load lists the codes of two owners in the order in which they are taken (R150, log entry 4). -/
theorem test_load_in_either_order :
    let s := having .SWING_CPR 5000 (having .AUX1_ACTIVE 1 (rest.setInput .AUX1 ⟨true, true, none⟩))
    let codes (order : List LoadPart) := (loadProfileIn order 0 s).alarms.list.map fun e => e.code
    codes loadParts = [.SWING_UNREF, .AUX_1] ∧ codes loadParts.reverse = [.AUX_1, .SWING_UNREF] := by
  decide +kernel

/-- A load wraps the swing count before any of its parts: the trigger record of an AUX entry that is taken first shows the angle
of the wrapped count, with the reference not yet lost (R9, log entries 4 and 34). -/
theorem test_load_wraps_before_the_record :
    let profile := (Profile.factory.set .SWING_CPR 5000).set .AUX1_CLASS 4
    let s := (rest.setInput .AUX1 ⟨true, true, none⟩).setCount .SWING 302500
    let t := loadProfileIn (.AUX .AUX1 :: loadParts) 1 ((s.withSwing { s.swing with referenced := true }).withStore
      { s.store with slot1 := Slot.saved profile })
    (t.trend.ring.getLast?.map fun r => (r.angle, r.referenced)) = some (1800, true) ∧
      (t.chan .SWING).count = 2500 ∧ t.swing.referenced = false := by
  decide +kernel

/-- A frame command returns the receiver of its port to HUNT (R160). -/
theorem test_frame_command_returns_to_hunt :
    ((demand .CAB [] (receiving .CAB .KIND rest)).port .CAB).rx = .HUNT ∧
      ((claim [] (receiving .SERVICE (.LENGTH 1) rest)).port .SERVICE).rx = .HUNT ∧
      ((driveStatus [] (receiving .DRIVE .KIND rest)).port .DRIVE).rx = .HUNT := by
  decide

/-- An index edge is stamped from the microsecond clock and carries the count (R13). -/
theorem test_index_event :
    ((rest.setCount .SWING 7).withTime 4001).indexEvent .SWING = ⟨.SWING, 2000, 7⟩ := by decide

/-- The swing count wraps both ways (R9). -/
theorem test_count_wraps :
    ((stepCount .SWING .minus rest).chan .SWING).count = rest.par .SWING_CPR - 1 ∧
      ((stepCount .SWING .plus (rest.setCount .SWING (rest.par .SWING_CPR - 1))).chan .SWING).count = 0 := by
  decide

/-- The bucket between equal ropes stands over the middle of the chord (R30). -/
theorem test_chord_position : chordA 6000 5000 5000 = 3000 ∧ chordH 5000 3000 = 4000 := by decide

/-- The slow-down form of the two-block term (R40). -/
theorem test_slow_down : slowDown 50 500 500 = 1000 ∧ slowDown 50 250 500 = 500 ∧ slowDown 50 1 500 = 50 ∧
    slowDown 50 0 500 = 0 := by decide

/-- The bands of a radius table (R63). -/
theorem test_radius_bands :
    let l : List RadiusEntry := [⟨1000, 900, 800⟩, ⟨5000, 700, 500⟩]
    radiusLimit 50 .EMPTY (some 999) l = 900 ∧ radiusLimit 50 .LOADED (some 4999) l = 800 ∧
      radiusLimit 50 .LOADED (some 5000) l = 500 ∧ radiusLimit 50 .EMPTY none l = 50 ∧
      radiusLimit 50 .EMPTY none [] = 1000 := by decide

/-- A sector over north holds angle 0 and neither of its edges (R64). -/
theorem test_sector_over_zero :
    let z : ZoneEntry := ⟨3500, 100, 1, none⟩
    z.holds 0 = true ∧ z.holds 3500 = false ∧ z.holds 100 = false ∧ z.holds 3501 = true := by decide

/-- The ramp moves by one step and lands on its target (R84). -/
theorem test_ramp : moveToward 0 1000 10 = 10 ∧ moveToward 995 1000 10 = 1000 ∧ moveToward 0 (-1000) 10 = -10 := by
  decide

/-- An order of three raises or clears is a rearrangement whatever the choice, and each of the six is some choice's (R150, log
entry 4). -/
theorem test_every_order_is_some_choice :
    (∀ n < 6, ∀ m ∈ motions.take 3, m ∈ shuffle (motions.take 3) n) ∧
      ((List.range 6).map fun n => shuffle (motions.take 3) n).Nodup := by decide

/-- A period at rest gives outputs of 0, one REFERENCE frame, and nothing to raise or clear. -/
theorem test_period_at_rest :
    (referencePeriod rest).drive.output = PerChannel.all 0 ∧ ((referencePeriod rest).port .DRIVE).tx.length = 1 ∧
      rest.periodEvents = [] := by decide

/-- A period in which the overhoist limit is near and a proof is given up has a raise of the hoist limiter and the clear of
TABLES_PENDING to take (R51, R74, R150). -/
theorem test_period_events :
    let s := braked .S .PROVING (valid rest)
    let near := (s.withGeo { s.geo with record := ⟨.VALID, some 0, some 5000, some ⟨2500, 4330, 2500, 0⟩, 0⟩ }).withPendingTables
      (.READY (PendingCopy.ofActive s.store.working.tables))
    near.periodEvents.map (fun e => match e with | .RAISE c _ => c | .CLEAR c => c) =
      [.HOIST_TOP_LIMIT, .TABLES_PENDING] := by decide +kernel

/-- A current at the threshold proves the hoist brake (R89). -/
theorem test_proof_at_threshold :
    ((judgeProof .H ((braked .H .PROVING rest).withFb
      ⟨PerChannel.all ⟨0, rest.par .PROOF_H, true, 0⟩, .DIG, false, false⟩)).brake .H).state = .OPENING := by
  decide

/-- A ready flag that is off closes a released brake (R95). -/
theorem test_ready_lost :
    ((readyLost .HOIST ((braked .H .RELEASED rest).setInput .HOIST_BRAKE_FB ⟨true, true, none⟩)).brake .H).state =
      .CLOSING := by
  decide

/-- A budget of 850 against a power of 900 lowers the first channel of the order by a step (R125). -/
theorem test_curtail_step :
    (adjustLevels (rest.withFb ⟨PerChannel.all ⟨1000, 900, true, 0⟩, .DIG, false, false⟩)).budget.level =
      ⟨1000, 1000, 980⟩ := by
  decide

/-- The first free entry that a raise of a class may evict, in a full list (R135). -/
theorem test_eviction :
    makeRoom .WARN (List.replicate 32 (AlarmEntry.atReset .LINE_DIP .WARN MotionSet.none 0)) = none ∧
      ((makeRoom .TRIP (List.replicate 32 (AlarmEntry.atReset .LINE_DIP .WARN MotionSet.none 0))).map
        List.length) = some 31 := by
  decide

/-- The horn is on for 16/16, 14/16 and 2/16 of a period of 1000 half-microseconds at levels 1, 2 and 8 (R20). -/
theorem test_horn_on_time : hornOnTime 1 = 1000 ∧ hornOnTime 2 = 875 ∧ hornOnTime 8 = 125 := by decide

/-- A full ring loses its oldest record (R151). -/
theorem test_ring_bounded :
    (putRecord TrendRecord.atReset (List.replicate 256 { TrendRecord.atReset with time := 7 })).length = 256 := by
  decide +kernel

/-- A frame received byte by byte: the last byte of an ALARM_READ has the effect of the command (R159, R160). -/
theorem test_last_byte_completes_a_frame :
    let f := frameBytes 0x23 [0]
    let s := (f.take 5).foldl (fun s b => takeByte .CAB b s) rest
    f.length = 6 ∧ (s.port .CAB).rx = .CHECK_HIGH 0x23 [0] (f.getD 4 0) ∧
      ((takeByte .CAB (f.getD 5 0) s).port .CAB).tx.length = 1 ∧
      ((takeByte .CAB (f.getD 5 0 + 1) s).port .CAB).tx = [] := by
  decide +kernel

/-- Every parameter's default is one of its values, and every id names its parameter (11 section 11.5). -/
theorem test_parameter_table :
    (∀ p ∈ Param.list, p.allows p.row.dflt = true ∧ Param.ofId p.row.id = some p) ∧ Param.list.length = 124 ∧
      (Param.list.map fun p => p.row.id).Nodup := by
  decide +kernel

/-! ### The profile store -/

/-- The check register run over bytes from a value, each value looked at as it comes. -/
def checkFrom : List Byte → BitVec 16 → BitVec 16
  | [], r => r
  | b :: l, r => if r.toNat = 0 then checkFrom l (crcByte r b) else checkFrom l (crcByte r b)

/-- The look at a value does not change the check. -/
theorem checkFrom_eq_foldl (l : List Byte) (r : BitVec 16) : checkFrom l r = l.foldl crcByte r := by
  induction l generalizing r with
  | nil => rfl
  | cons b l ih => simp only [checkFrom, ite_self, List.foldl_cons, ih]

/-- A slot that has never been saved is invalid: the check over the factory profile is not its word 0 (log entry 9). -/
theorem test_blank_slot_is_invalid : Slot.blank.valid = false := by
  have h : checkFrom Profile.factory.image 0xFFFF#16 ≠ 0 := by decide +kernel
  rw [checkFrom_eq_foldl] at h
  exact beq_eq_false_iff_ne.mpr (Ne.symm h)

/-- The image of the factory profile: 124 parameters of 4 bytes, and two counts of 0 (R175, log entry 10). -/
theorem test_image_length : Profile.factory.image.length = 498 := by
  decide +kernel

/-- A save leaves its slot invalid until its completion matches, and valid with its word from then on (R178, R179). -/
theorem test_saved_slot_is_valid :
    (startSave 2 rest).store.slotValid 2 = false ∧
      (saveCompletes ⟨1, true⟩ (startSave 2 rest)).store.slot 2 = Slot.saved rest.store.working ∧
      (saveCompletes ⟨1, true⟩ (startSave 2 rest)).store.slotValid 2 = true :=
  ⟨startSave_invalid rest (by decide), rfl, Slot.saved_valid _⟩

/-- The completion of a write that its timer has ended leaves a later save WRITING (R179, log entry 22). -/
theorem test_late_completion :
    let later := startSave 3 (saveEnds false (startSave 2 rest))
    later.store.writes = 2 ∧ saveCompletes ⟨1, true⟩ later = later ∧
      (saveCompletes ⟨2, true⟩ later).store.save = .IDLE :=
  ⟨rfl, saveCompletes_late (.inr (by decide)), rfl⟩

/-! ### The step state -/

/-- A cam that is HELD keeps the state while the edge starts or ends at park, and latches a new cycle at the next edge
outside, in that edge's direction (R118, log entry 30). -/
theorem test_held_cam_coasts :
    stepAfter .minus true true (.HELD .plus) = .HELD .plus ∧ stepAfter .plus true false (.HELD .plus) = .HELD .plus ∧
      stepAfter .minus false true (.HELD .plus) = .HELD .plus ∧
      stepAfter .minus false false (.HELD .plus) = .IN_CYCLE .minus := by
  decide

/-! ### What the obligations ask of a state is met -/

/-- A timer at 4000 half-microseconds for one line, with the raw level high. -/
def rising (l : CountLine) (s : State) : State :=
  s.setLine l ⟨true, false, some 4000⟩

/-- The same with the raw level low. -/
def falling (l : CountLine) (s : State) : State :=
  s.setLine l ⟨false, true, some 4000⟩

/-- The list of the machine at rest is sound. -/
theorem witness_sound_list : ListSound rest ∧ ListSound State.reset := by
  constructor <;> (unfold ListSound EntryFits; decide)

/-- No timer due, one due and several due, with an empty queue. -/
theorem witness_idle :
    (State.reset.pending = [] ∧ State.reset.due = []) ∧
      (State.reset.withTime 1000).due = [.hornSwitchingPeriod] ∧
      (rising .HOIST_A (rest.withTime 4000)).due = [.filterTimerExpiry .HOIST_A] ∧
      2 ≤ (rising .HOIST_B (rising .HOIST_A (rest.withTime 4000))).due.length := by
  decide

/-- Every timer that can be stopped is stopped in some state. -/
theorem witness_stopped_timers :
    let s := (rest.withGeo { rest.geo with sampleTimer := none, holdTimer := none }).withDrive
      { rest.drive with refTimer := none }
    s.geo.sampleTimer = none ∧ s.geo.holdTimer = none ∧ s.drive.refTimer = none ∧ s.walk.timer = none ∧
      s.walk.lubeTimer = none ∧ s.ports.link.timer = none ∧ s.ports.serviceTimer = none ∧ s.alarms.envTimer = none ∧
      s.trend.state ≠ .POST_TRIGGER ∧ s.store.saveTimer = none ∧
      s.horn.timer = none ∧ (s.brake .H).state ≠ .PROVING ∧
      (s.line .HOIST_A).timer = none ∧ (s.chan .HOIST).timer = none ∧ (s.input .ESTOP_OK).timer = none ∧
      (s.ports.demand.get .CAB).timer = none := by
  decide

/-- Start slots that load, and both ways to fall back: a word of the start slot that disagrees, and a slot whose word does. -/
theorem witness_start_up :
    (rest.store.startOk = true ∧ rest.store.slotValid rest.store.startSlot = true) ∧
      ({ rest.store with startCheck := 0 }).startOk = false ∧
      ({ rest.store with startSlot := 3, startCheck := startWord 3 }).startOk = true ∧
      ({ rest.store with startSlot := 3, startCheck := startWord 3 }).slotValid 3 = false :=
  ⟨by decide +kernel, by decide +kernel, by decide +kernel, test_blank_slot_is_invalid⟩

/-- Lines about to take an edge: a quadrature phase, and in PULSE mode B, and A falling and rising. -/
theorem witness_phase_edges :
    (linePhase .HOIST_A ≠ .Z ∧ rest.pulseMode (lineCh .HOIST_A) = false ∧
      ((rising .HOIST_A rest).line .HOIST_A).timer = some 4000) ∧
    (let s := having .CAM_MODE 1 rest;
      s.par .CAM_MODE = 1 ∧ ((rising (lineB (camCh .L)) s).line (lineB (camCh .L))).timer = some 4000 ∧
        ((falling (lineA (camCh .R)) s).line (lineA (camCh .R))).timer = some 4000 ∧
        ((falling (lineA (camCh .R)) s).line (lineA (camCh .R))).raw = false ∧
        ((rising (lineA (camCh .R)) s).line (lineA (camCh .R))).raw = true) := by
  decide

/-- Index lines about to rise and to fall, and a slip at the first difference beyond the tolerance. -/
theorem witness_index_edges :
    ListSound (rising .SWING_Z rest) ∧ ((rising .SWING_Z rest).line .SWING_Z).timer = some 4000 ∧
      ((rising .SWING_Z rest).line .SWING_Z).raw = true ∧ ((falling .SWING_Z rest).line .SWING_Z).raw = false ∧
      ((rising (camIndexLine .L) rest).line (camIndexLine .L)).timer = some 4000 ∧
      ((rising (camIndexLine .R) rest).line (camIndexLine .R)).raw = true ∧
      ((falling (camIndexLine .R) rest).line (camIndexLine .R)).raw = false ∧
      ((falling (camIndexLine .R) rest).line (camIndexLine .R)).timer = some 4000 ∧
      HasRoomFor .SWING_SLIP (rising .SWING_Z rest) := by
  unfold ListSound EntryFits HasRoomFor; decide

/-- A channel about to come to standstill with a released brake that waits for it. -/
theorem witness_standstill :
    let s := (braked .H .RELEASED rest).putBrake .H ⟨.RELEASED, none, false, false⟩
    ((s.setChan .HOIST { s.chan .HOIST with timer := some 4000 }).chan .HOIST).timer = some 4000 ∧
      standstillSource .H = .HOIST ∧ (s.brake .H).state = .RELEASED ∧ s.drive.output.get (channelOf .H) = 0 ∧
      s.drive.bounded.get .H = 0 ∧ (s.brake .H).timer = none := by
  decide

/-- Inputs about to change: the tub, the key on and off, a mark that ends, and both rope marks. -/
theorem witness_debounce :
    ((changing .TUB_SEATED rest).input .TUB_SEATED).timer = some 4000 ∧
      ((changing .LOCAL_KEY rest).input .LOCAL_KEY).raw = false ∧
      ((changing .LOCAL_KEY State.reset).input .LOCAL_KEY).raw = true ∧
      ((changing .HOIST_MARK rest).input .HOIST_MARK).raw = true ∧
      ((changing .DRAG_MARK (rest.setInput .DRAG_MARK ⟨true, true, none⟩)).input .DRAG_MARK).raw = false ∧
      ((changing .DRAG_MARK rest).input .DRAG_MARK).raw = true ∧
      ListSound (changing .LOCAL_KEY rest) ∧ ListSound (changing .DRAG_MARK rest) := by
  unfold ListSound EntryFits; decide

/-- The three safety inputs about to change to their unsafe side on a sound machine. -/
theorem witness_safety_switches :
    let s := changing .ESTOP_OK (changing .OVERHOIST_SW (changing .BOOM_JACK_SW (braked .H .RELEASED rest)))
    ListSound s ∧ CoilsFollowBrakes s ∧ TripHoldsBrakes s ∧
      ((s.input .ESTOP_OK).timer = some 4000 ∧ (s.input .ESTOP_OK).raw = false) ∧
      ((s.input .OVERHOIST_SW).timer = some 4000 ∧ (s.input .OVERHOIST_SW).raw = true) ∧
      (s.input .BOOM_JACK_SW).timer = some 4000 ∧ (s.input .BOOM_JACK_SW).raw = true := by
  refine ⟨by unfold ListSound EntryFits; decide, fun m => ?_, fun m => ?_, by decide⟩
  all_goals cases m <;> decide

/-- A sample timer that runs, with two referenced ropes that give a VALID sample and with none. -/
theorem witness_geometry_sample :
    let s := rest.withGeo { rest.geo with ref := ⟨.MARKED 6000 0, .MANUAL 6000 0⟩ }
    s.geo.sampleTimer.isSome = true ∧ s.nextRecord.status = .VALID ∧ rest.nextRecord.status = .UNREFERENCED := by
  decide

/-- VALID samples at both ends of the chord's range, and with a rope on the boundary of each check. -/
theorem witness_valid_position :
    sampleStatus 1000 (some 1000) (some 0) = .VALID ∧ sampleStatus 20000 (some 10000) (some 10000) = .VALID ∧
      sampleStatus 20000 (some 30000) (some 10000) = .VALID ∧ sampleStatus 1000 (some 0) (some 1000) = .VALID := by
  decide

/-- A ROPE_SET that is accepted at the longest length, one out of range, and one with the brake out of SET. -/
theorem witness_rope_set :
    ((rest.port .SERVICE).tx.length < 8 ∧ ([1, 0x30, 0x75] : List Byte).length = 3 ∧
      u8 [1, 0x30, 0x75] 0 = 1 ∧ u16 [1, 0x30, 0x75] 1 = 30000 ∧ (rest.brake (ropeBrake .HOIST)).state = .SET) ∧
    (u8 [2, 0x31, 0x75] 0 = 2 ∧ u16 [2, 0x31, 0x75] 1 = 30001) ∧
      ((braked .D .OPENING rest).brake (ropeBrake .DRAG)).state ≠ .SET := by
  decide

/-- Hold and lube timers that run on a sound machine with room in the list. -/
theorem witness_hold_and_lube :
    ListSound rest ∧ rest.geo.holdTimer.isSome = true ∧ HasRoomFor .GEOMETRY_LOST rest ∧
      (rest.withLubeTimer (some 4000)).walk.lubeTimer = some 4000 ∧ ListSound (rest.withLubeTimer (some 4000)) := by
  unfold ListSound EntryFits HasRoomFor; decide

/-- The clauses of the slow-down form at their ends. -/
theorem witness_slow_down :
    (10 ≤ (10 : Int) ∧ 10 ≤ (300 : Int)) ∧ slowDown 10 0 10 = 0 ∧ slowDown 300 1 10 = 300 ∧ slowDown 300 9 10 = 900 ∧
      slowDown 300 10 10 = 1000 ∧ slowDown 50 499 500 = 998 ∧ slowDown 50 500 500 = 1000 ∧ slowDown 50 24 500 = 50 ∧
      slowDown 50 25 500 = 50 := by
  decide

/-- A NO_ENTRY sector seen from its two edges and from far off, and one with the house inside; a SLOW one. -/
theorem witness_sectors :
    let z : ZoneEntry := ⟨900, 1800, 1, none⟩
    z.noEntry = true ∧ z.holds 900 = false ∧ z.holds 1800 = false ∧ z.holds 0 = false ∧ z.holds 901 = true ∧
      z.holds 1799 = true ∧ (⟨900, 1800, 2, some 300⟩ : ZoneEntry).noEntry = false := by
  decide

/-- A reference period that is ready in dig and in walk, with and without a reference and a record. -/
theorem witness_reference_period :
    PeriodReady (valid (linked rest)) 20000 ∧ (linked rest).walk.transfer = .DIG ∧
      (linked rest).swing.referenced = false ∧ (rest.withSwing { rest.swing with referenced := true }).swing.referenced
        = true ∧ (valid rest).validRecord = some (5000, 5000, ⟨2500, 4330, 2500, 0⟩) ∧ rest.validRecord = none ∧
      rest.isOn .OVERHOIST_SW = false ∧ (rest.setInput .OVERHOIST_SW ⟨true, true, none⟩).isOn .OVERHOIST_SW = true ∧
      (inTransfer .WALK rest).walk.transfer ≠ .DIG ∧ (rest.port .DRIVE).tx.length < 8 := by
  unfold PeriodReady ListSound EntryFits; decide

/-- A profile whose parameters are in range, checked over the table. -/
theorem profileInRange_of_list {w : Profile} (h : ∀ q ∈ Param.list, q.allows (w.get q) = true) : ProfileInRange w :=
  fun q => h q (by cases q <;> decide)

/-- The working profile and the levels are in range in the state of the periods. -/
theorem witness_ranges :
    ProfileInRange (valid (linked rest)).store.working ∧ LevelsInRange (valid (linked rest)) := by
  refine ⟨profileInRange_of_list (by decide +kernel), fun c => ?_⟩
  cases c <;> decide

/-- The machine at rest has the properties that the steps keep, but for the transfer conditions (witness_transfer_conditions). -/
theorem witness_kept_by_steps :
    (AlarmsSafe rest ∧ BrakesSafe rest) ∧ BuffersBounded rest ∧ ValuesInRange rest := by
  have hp : ProfileInRange Profile.factory := profileInRange_of_list (by decide +kernel)
  refine ⟨⟨⟨?_, ?_⟩, fun m => ?_, fun m => ?_, ?_, ?_⟩, ⟨fun p => ?_, ?_⟩, ⟨hp, fun n => ?_, ?_⟩, fun c => ?_, ?_⟩
  · unfold ListSound EntryFits; decide
  · unfold DriveEnableSound; decide
  · cases m <;> decide
  · cases m <;> decide
  · unfold TransferHoldsBrakes; decide
  · unfold TransferCoilSound; decide
  · cases p <;> decide
  · decide
  · match n with
    | 0 | 1 | 2 | _ + 3 => exact hp
  · intro n w h
    cases h
  · cases c <;> decide
  · unfold CountsInRange; decide

/-- A brake in SET that may open, and each working state with its timer running. -/
theorem witness_brakes :
    ((linked rest).brake .H).state = .SET ∧ (linked rest).mayOpen .H = true ∧ 0 < rest.par (proofParam .H) ∧
      rest.par (proofParam .S) ≤ 0 ∧ ListSound (braked .H .PROVING rest) ∧
      ((braked .H .PROVING rest).brake .H).timer = some 4000 ∧ ((braked .D .OPENING rest).brake .D).state = .OPENING ∧
      ((braked .S .RELEASED rest).brake .S).state = .RELEASED ∧ ((braked .W .CLOSING rest).brake .W).state = .CLOSING := by
  unfold ListSound EntryFits; decide

/-- A feedback about to turn on, and about to turn off, for a brake in each state the clauses name. -/
theorem witness_feedback :
    let on := changing .HOIST_BRAKE_FB rest
    let off := changing .HOIST_BRAKE_FB (rest.setInput .HOIST_BRAKE_FB ⟨true, true, none⟩)
    ListSound on ∧ (on.input (feedbackInput .H)).raw = true ∧ (on.input (feedbackInput .H)).timer = some 4000 ∧
      (off.input (feedbackInput .H)).raw = false ∧ ((braked .H .OPENING on).brake .H).state = .OPENING ∧
      ((braked .H .PROVING on).brake .H).state = .PROVING ∧ (on.brake .H).state = .SET ∧
      ((braked .H .CLOSING off).brake .H).state = .CLOSING ∧ ((braked .H .RELEASED off).brake .H).state = .RELEASED := by
  unfold ListSound EntryFits; decide

/-- A MODE_REQUEST to WALK that meets every condition, and the two that go back to DIG. -/
theorem witness_mode_request_carried_out :
    let s := linked (valid rest)
    ListSound s ∧ (s.port .CAB).tx.length < 8 ∧ s.ports.authority.get .D = .CAB ∧ s.ports.authority.get .W = .CAB ∧
      s.walk.transfer = .DIG ∧ s.brakesSet = true ∧ s.geo.record.status = .VALID ∧ s.grounded = true ∧
      s.isOn .LUBE_OK = true ∧ s.isOn .TUB_SEATED = true ∧ s.ports.link.inStep = true ∧ s.inhibited .D = false ∧
      s.inhibited .W = false ∧ (inTransfer .TO_WALK s).walk.transfer = .TO_WALK ∧
      (inTransfer .WALK s).walk.transfer = .WALK ∧ u8 [2, 1] 0 = 2 ∧ u8 [1, 2] 1 = 2 := by
  unfold ListSound EntryFits; decide

/-- Each reason to refuse a MODE_REQUEST stands alone in some state. -/
theorem witness_mode_request_refused :
    let s := linked (valid rest)
    ([2] : List Byte).length ≠ 2 ∧ u8 [3, 1] 0 = 3 ∧
      (s.withPorts { s.ports with authority := PerMotion.all .SERVICE }).ports.authority.get .D ≠ .CAB ∧
      ((braked .S .CLOSING s).brake .S).state ≠ .SET ∧ (linked rest).grounded = false ∧
      (s.setInput .LUBE_OK ⟨false, false, none⟩).isOn .LUBE_OK = false ∧
      (s.setInput .TUB_SEATED ⟨false, false, none⟩).isOn .TUB_SEATED = false ∧
      (valid rest).ports.link.inStep = false ∧ (listing .TRANSFER_TIMEOUT .ACTIVE_ACK s).inhibited .D = true ∧
      (inTransfer .TO_DIG s).walk.transfer = .TO_DIG := by
  decide

/-- A transfer one contactor short of each end, and one that times out. -/
theorem witness_transfer_ends :
    let toWalk := changing .XFER_WALK_FB ((inTransfer .TO_WALK (linked rest)).setInput .XFER_DIG_FB ⟨false, false, none⟩)
    let toDig := changing .XFER_DIG_FB ((inTransfer .TO_DIG (linked rest)).setInput .XFER_DIG_FB ⟨false, false, none⟩)
    ((toWalk.withFb { toWalk.fb with config := .WALK }).fb.config = .WALK ∧ toWalk.fb.stale = false ∧
      (toWalk.input .XFER_WALK_FB).timer = some 4000 ∧ (toWalk.input .XFER_WALK_FB).raw = true ∧
      (toWalk.input .XFER_DIG_FB).level = false) ∧
    (toDig.fb.config = .DIG ∧ (toDig.input .XFER_DIG_FB).raw = true ∧ (toDig.input .XFER_WALK_FB).level = false) ∧
      ListSound toDig ∧ toDig.walk.timer = some 4000 := by
  unfold ListSound EntryFits; decide

/-- A cam that is SYNCED at the park angle, and phases in order. -/
theorem witness_walk_phase :
    ((rest.setCam .L ⟨.SYNCED, 0, false⟩).walk.cams.get .L).sync = .SYNCED ∧ (rest.walk.cams.get .L).sync ≠ .SYNCED ∧
      rest.par .PHASE_1 < rest.par .PHASE_2 ∧ rest.par .PHASE_2 < rest.par .PHASE_3 ∧
      rest.par .PHASE_3 < rest.par .PHASE_4 ∧ (rest.chan .CAM_L).count = 0 ∧ 0 ≤ rest.par .PARK_WINDOW := by
  decide

/-- Shares within their bounds, whose sum is at most 1000. -/
theorem witness_shares :
    0 ≤ rest.par .SHARE_H ∧ rest.par .SHARE_H ≤ 1000 ∧ rest.par .SHARE_DW ≤ 1000 ∧ rest.par .SHARE_S ≤ 1000 ∧
      rest.par .SHARE_H + rest.par .SHARE_DW + rest.par .SHARE_S = 1000 := by
  decide

/-- The link before its lock, at its lock and in step; a power above, within and below the band of the budget. -/
theorem witness_drive_link :
    (rest.ports.link.inStep = false ∧ rest.ports.link.lock < 2) ∧ (linked rest).ports.link.inStep = true ∧
      2 ≤ (rest.withLink ⟨false, 2, 0, none, false⟩).ports.link.lock ∧
      ((linked rest).ports.link.timer = some 30000 ∧ (linked rest).ports.link.miss < 2) ∧
      2 ≤ ((linked rest).withLink ⟨true, 0, 2, some 4000, false⟩).ports.link.miss ∧
      (let p (h c : Int) := rest.withFb ⟨⟨⟨1000, h, true, 0⟩, ⟨1000, c, true, 0⟩, ⟨1000, c, true, 0⟩⟩, .DIG, false, false⟩;
        (p 852 852).selectedBudget + 1 = (p 852 852).machinePower ∧ (p 852 850).machinePower = (p 852 850).selectedBudget ∧
        (p 800 800).machinePower = (p 800 800).selectedBudget - rest.par .CURTAIL_BAND ∧
        (p 799 799).machinePower < (p 799 799).selectedBudget - rest.par .CURTAIL_BAND) := by
  decide

/-- Lists with room, full ones that hold something to evict and full ones that hold nothing for an INFO raise. -/
theorem witness_raise :
    (filled 31 rest).listed .LINE_DIP = false ∧
      (filled 31 rest).alarms.list.length = 31 ∧ (filled 32 rest).alarms.list.length = 32 ∧
      ListSound (filled 32 rest) ∧ (makeRoom .TRIP (filled 32 rest).alarms.list).isSome = true ∧
      makeRoom .INFO (filled 32 rest).alarms.list = none ∧ (filled 31 rest).listed .ESTOP = true ∧
      ((filled 31 rest).alarms.list.map fun e => e.code).Nodup := by
  unfold ListSound EntryFits; decide

/-- Requests of the alarm unit that are taken and refused: the codes 45 and 46, the key on and off. -/
theorem witness_alarm_requests :
    let s := listing .LUBE_LOW .CLEARED_LATCHED rest
    ListSound s ∧ s.ports.zeroPassWait = s.waiting.nonEmpty ∧ s.ports.serviceLost = false ∧
      (s.port Master.SERVICE.port).tx.length < 8 ∧ u8 [45] 0 = 45 ∧ u8 [46] 0 = 46 ∧ s.isOn .LOCAL_KEY = true ∧
      State.reset.isOn .LOCAL_KEY = false ∧ s.alarms.list.length < 32 ∧ (s.alarms.list.filter s.resettable).length = 1 := by
  unfold ListSound EntryFits; decide

/-- The timers of pattern, envelope and horn run after a reset with the chain open; a period in each of its parts. -/
theorem witness_annunciation_timers :
    State.reset.alarms.patternTimer.isSome = true ∧ State.reset.alarms.envTimer.isSome = true ∧
      State.reset.horn.timer.isSome = true ∧ State.reset.out.horn = true ∧ State.reset.horn.level ≤ 1 ∧
      1 < (State.reset.withHorn ⟨true, 8, some 1000⟩).horn.level := by
  decide

/-- The recorder in each state with its timer running, one record before the freeze and earlier. -/
theorem witness_trend :
    ListSound rest ∧ rest.trend.state = .ARMED ∧ rest.trend.timer.isSome = true ∧
      State.reset.trend.state = .POST_TRIGGER ∧ State.reset.trend.timer = some 40000 ∧
      (State.reset.trend.post : Int) + 1 < State.reset.par .TREND_POST ∧
      State.reset.par .TREND_POST ≤ ((63 : Nat) : Int) + 1 ∧ HasRoomFor .TREND_FROZEN rest ∧
      (rest.withTrend ⟨[], .FROZEN, none, 64, true⟩).trend.state = .FROZEN ∧ (rest.port .SERVICE).tx.length < 8 ∧
      u8 [0, 6] 1 = 6 ∧ u8 [0, 7] 1 = 7 := by
  unfold ListSound EntryFits HasRoomFor; decide

/-- Hold timers that run for both masters, with contact made, and a SERVICE timer that runs. -/
theorem witness_link_expiries :
    let s := rest.setDemand .CAB ⟨⟨100, 0, 0, 0⟩, some 4000, false⟩
    let t := s.withPorts { s.ports with cabContact := true, serviceTimer := some 4000 }
    ListSound t ∧ (t.ports.demand.get .CAB).timer = some 4000 ∧ t.ports.cabContact = true ∧
      t.ports.serviceTimer = some 4000 ∧ t.ports.authority.get .H = .CAB := by
  unfold ListSound EntryFits; decide

/-- Motion sets at both ends of the range and beyond them, with every brake SET and one not. -/
theorem witness_claim :
    ListSound rest ∧ (rest.port .SERVICE).tx.length < 8 ∧ u8 [1] 0 = 1 ∧ u8 [15] 0 = 15 ∧ u8 [0] 0 = 0 ∧ u8 [16] 0 = 16 ∧
      rest.isOn .LOCAL_KEY = true ∧ rest.brakesSet = true ∧ ((braked .H .RELEASED rest).brake .H).state ≠ .SET ∧
      (MotionSet.ofCode 1).get .H = true ∧ State.reset.isOn .LOCAL_KEY = false := by
  unfold ListSound EntryFits; decide

/-- A queue with room, a full one, and a full one with a STATUS that waits. -/
theorem witness_queues :
    rest.ports.statusTimer.get .CAB ≠ none ∧ (rest.port .CAB).tx.length < 8 ∧
      (rest.port .CAB).tx.tail.any TxFrame.isStatus = false ∧
      (let s := rest.setQueue .CAB (List.replicate 8 (.reply 0x10 .OK 0));
        8 ≤ (s.port .CAB).tx.length ∧ (s.port .CAB).tx.tail.any TxFrame.isStatus = false) ∧
      ((rest.setQueue .CAB (List.replicate 8 (.status rest.statusContent))).port .CAB).tx.tail.any TxFrame.isStatus
        = true := by
  decide

/-- Each receiver state, a check that agrees and one that does not, and a frame command of each port. -/
theorem witness_receiver :
    framePort (.demand .CAB []) = some .CAB ∧ framePort (.maskWrite .PATTERN_PERIOD 0) = some .SERVICE ∧
      framePort (.driveStatus []) = some .DRIVE ∧ (rest.port .DRIVE).rx = .HUNT ∧
      ((receiving .CAB (.LENGTH 0x10) rest).port .CAB).rx = .LENGTH 0x10 ∧
      ((receiving .CAB (.PAYLOAD 0x23 1 []) rest).port .CAB).rx = .PAYLOAD 0x23 1 [] ∧
      ((receiving .CAB (.CHECK_LOW 0x23 [0]) rest).port .CAB).rx = .CHECK_LOW 0x23 [0] ∧
      crc (0x23 :: BitVec.ofNat 8 1 :: [0]) = (crc [0x23, 1, 0] >>> 8).setWidth 8 ++ (crc [0x23, 1, 0]).setWidth 8 ∧
      crc (0x23 :: BitVec.ofNat 8 1 :: [0]) ≠ 0#8 ++ 0#8 := by
  decide +kernel

/-- Parameter values at both ends and beyond, an inconsistent pair, a gated write with a brake out of SET, and ids of
every kind. -/
theorem witness_parameters :
    Param.allows .CREEP 10 = true ∧ Param.allows .CREEP 300 = true ∧ Param.allows .CREEP 301 = false ∧
      rest.store.working.consistentWith .PHASE_1 1500 = false ∧ rest.store.working.consistentWith .PHASE_1 1499 = true ∧
      rest.gateClosed .CHORD_LEN = false ∧ (braked .H .RELEASED rest).gateClosed .CHORD_LEN = true ∧
      Param.ofId 0x0999 = none ∧ Param.ofId 0x0F05 = none ∧
      u16 (paramPayload (Param.row .CREEP).id 50) 0 = (Param.row .CREEP).id ∧
      s32 (paramPayload (Param.row .CREEP).id 50) 2 = 50 ∧ rest.store.save = .IDLE := by
  decide

/-- Writes that change each of the parameters whose owner acts, and writes that leave them. -/
theorem witness_parameter_changes :
    (rest.port .SERVICE).tx.length < 8 ∧ rest.brakesSet = true ∧ ListSound rest ∧
      (floorParam .HOIST).allows 1000 = true ∧ rest.budget.level.get .HOIST = 1000 ∧
      Param.allows .SWING_CPR (rest.par .SWING_CPR) = true ∧ (camParam .CAM_CPR).allows 100 = true ∧
      (auxFieldParam .AUX1 .CLASS).allows 4 = true ∧ (auxActive .AUX2).allows 1 = true ∧
      rest.isOn (auxInput .AUX2) = false ∧ (having .AUX2_ACTIVE 1 rest).isOn (auxInput .AUX2) = true ∧
      Param.allows .ENVELOPE_ON 0 = true ∧ rest.par .ENVELOPE_ON = 1 ∧ (maskWriteParam .PATTERN_PERIOD).allows 16 = true := by
  unfold ListSound EntryFits; decide

/-- Slots to load that are valid, invalid and out of range, with the store idle and writing. -/
theorem witness_profiles :
    (u8 [3] 0 = 3 ∧ u8 [4] 0 = 4 ∧ rest.brakesSet = true ∧ rest.store.save = .IDLE ∧ rest.store.slotValid 0 = true ∧
      (startSave 3 rest).store.save = .WRITING 3 rest.store.working ∧ (startSave 3 rest).store.saveTimer = some 600000 ∧
      (startSave 3 rest).store.writes = 1 ∧ HasRoomFor .PROFILE_SAVE_FAIL rest) ∧ rest.store.slotValid 1 = false :=
  ⟨by unfold HasRoomFor; decide +kernel, test_blank_slot_is_invalid⟩

/-- TABLE_WRITEs of a count and of an entry, a copy that passes the check and one that does not, and reads. -/
theorem witness_tables :
    ListSound rest ∧ ([1, 0, 8] : List Byte).length = tableWriteLength .RADIUS (u8 [1, 0, 8] 1) ∧
      ([2, 8, 0, 0, 1, 0, 1, 0, 0] : List Byte).length = tableWriteLength .ZONE 8 ∧ tableOf 2 = some .ZONE ∧
      tableOf 3 = none ∧ (PendingCopy.ofActive ⟨[⟨1, 2, 3⟩], []⟩).tables.firstBad = none ∧
      (PendingCopy.ofActive ⟨[⟨1, 2, 1001⟩], []⟩).tables.firstBad = some 1 ∧ rest.swing.pending = .ABSENT ∧
      (rest.brake .S).state = .SET ∧ copyOf 2 = some .PENDING ∧ copyOf 0 = none := by
  unfold ListSound EntryFits; decide

/-! ### The clauses with a condition of their own -/

/-- A channel one stamp of a microsecond ago, at a count. -/
def racing (ch : CountCh) (n : Int) (s : State) : State :=
  s.setChan ch { s.chan ch with count := n, stamps := [1999] }

/-- Both cams SYNCED, in WALK and the SINGLE mode, with CAM_L at a count. -/
def walking (n : Int) (s : State) : State :=
  let t := (((inTransfer .WALK s).setCam .L ⟨.SYNCED, 0, false⟩).setCam .R ⟨.SYNCED, 0, false⟩)
  t.setChan .CAM_L { t.chan .CAM_L with count := n }

/-- The step state of a machine that walks. -/
def stepping (st : StepState) (s : State) : State :=
  s.withWalk { s.walk with step := st }

/-- Edges of HOIST at and off its limit, with and without the range condition, and a speed beyond the threshold. -/
theorem witness_range_and_overspeed :
    let up := rising .HOIST_A (rest.setCount .HOIST 2147483647)
    let back := rising .HOIST_B (rest.setChan .HOIST ⟨2147483647, .plus, [], 0, true, none, true⟩)
    let fast := rising .HOIST_A (racing .HOIST 0 rest)
    (ListSound up ∧ up.alarms.list.length ≤ 30 ∧ rangeAfter up .HOIST (quadratureSense up .HOIST_A) = true ∧
      (up.chan .HOIST).rangeCond = false) ∧
    (rangeAfter back .HOIST (quadratureSense back .HOIST_B) = false ∧ (back.chan .HOIST).rangeCond = true) ∧
    (ListSound fast ∧ TripHoldsBrakes fast ∧ CoilsFollowBrakes fast ∧ speedCond fast .HOIST = false ∧
      fast.par .OVERSPEED_H < (edgeRecord fast .HOIST .plus (expiryTime fast 4000)).speed ∧
      rangeAfter fast .HOIST .plus = (fast.chan .HOIST).rangeCond) ∧
    speedCond (fast.withOverspeed .HOIST true) .HOIST = true := by
  refine ⟨by unfold ListSound EntryFits; decide, by decide, ⟨by unfold ListSound EntryFits; decide, ?_, ?_, by decide⟩,
    by decide⟩
  all_goals intro m; cases m <;> decide

/-- Cam indexes at the third miss of a SYNCED cam and at the third agreement of a SYNCING one, the other being SYNCED. -/
theorem witness_cam_ladder :
    let s := rising .CAM_L_Z (walking 1000 rest)
    let lost := s.setCam .L ⟨.SYNCED, 2, false⟩
    let found := (rising .CAM_L_Z (walking 0 rest)).setCam .L ⟨.SYNCING, 2, true⟩
    (s.par .CAM_INDEX_TOL < mag (angDiff (1000 * 3600 / s.par .CAM_CPR) (s.par .CAM_INDEX_ANGLE)) ∧
      (camLadder .SYNCED 2 false).1 = .UNSYNCED ∧ HasRoomFor .CAM_SYNC_L lost ∧ ListSound lost) ∧
    (mag (angDiff 0 (found.par .CAM_INDEX_ANGLE)) ≤ found.par .CAM_INDEX_TOL ∧
      (camLadder .SYNCING 2 true) = (.SYNCED, 0, true) ∧ BothSynced (found.setCam .L ⟨.SYNCED, 0, true⟩) ∧
      ¬ BothSynced found) ∧ (camLadder .SYNCED 1 false).2.2 = false := by
  unfold HasRoomFor ListSound EntryFits BothSynced; decide

/-- Standstill of a channel with its overspeed condition and without it, and of CAM_L in a state that permits steering. -/
theorem witness_standstill_conditions :
    let s := (rest.withOverspeed .HOIST true).setChan .HOIST { rest.chan .HOIST with timer := some 4000 }
    let w := walking ((rest.par .PHASE_2 + 1) * rest.par .CAM_CPR / 3600) rest
    speedCond s .HOIST = true ∧ (s.chan .HOIST).timer = some 4000 ∧ speedCond rest .HOIST = false ∧ SteeringHolds w ∧
      (w.setChan .CAM_L { w.chan .CAM_L with timer := some 4000, standstill := false }).walkPhase = .STEPPING := by
  unfold SteeringHolds BothSynced; decide

/-- An ascending radius table, with a bucket nearer than its first entry, at an entry and between two, and no table. -/
theorem witness_radius_table :
    let l : List RadiusEntry := [⟨1000, 900, 800⟩, ⟨5000, 700, 500⟩]
    let s := rest.withStore { rest.store with working := { rest.store.working with tables := ⟨l, []⟩ } }
    let away (x : Int) := s.withGeo { s.geo with record := ⟨.VALID, none, none, some ⟨0, 0, x, 0⟩, 0⟩ }
    l.Pairwise (fun f g => f.radius < g.radius) ∧ (away 999).radiusLimitNow = 900 ∧ (away 1000).radiusLimitNow = 900 ∧
      (away 4999).radiusLimitNow = 900 ∧ (away 5000).radiusLimitNow = 700 ∧ s.geo.record.pos = none ∧
      rest.store.working.tables.radius = [] := by
  decide

/-- A drag brake about to close in TRANSFER_FAULT with nothing against the exit, and with the walk brake against it. -/
theorem witness_transfer_fault_ends :
    let s := linked (inTransfer .TRANSFER_FAULT rest)
    let closing := changing .DRAG_BRAKE_FB ((braked .D .CLOSING s).setInput .DRAG_BRAKE_FB ⟨true, true, none⟩)
    (ListSound closing ∧ (closing.input (feedbackInput .D)).raw = false ∧ (closing.brake .D).state = .CLOSING ∧
      closing.walk.transfer = .TRANSFER_FAULT) ∧ FaultMayEnd s ∧ ¬ FaultMayEnd (braked .W .CLOSING s) := by
  unfold ListSound EntryFits FaultMayEnd; decide

/-- The contactor about to leave dig and walk, in a transfer, and in TRANSFER_FAULT with each condition and with none. -/
theorem witness_contactor :
    let left := changing .XFER_DIG_FB rest
    let both := changing .XFER_WALK_FB rest
    let fault (a b : Bool) (s : State) := (inTransfer .TRANSFER_FAULT s).withWalk
      { (inTransfer .TRANSFER_FAULT s).walk with timeoutCond := a, positionCond := b }
    (left.walk.transfer = .DIG ∧ ListSound left ∧ (left.input .XFER_DIG_FB).raw = false ∧ both.contactor = .DIG ∧
      (both.input .XFER_WALK_FB).raw = true) ∧
    (both.setInput .XFER_WALK_FB ⟨true, true, none⟩).contactor = .BOTH ∧
      (left.setInput .XFER_DIG_FB ⟨false, false, none⟩).contactor = .NEITHER ∧
    ((fault true true left).walk.timeoutCond = true ∧ (fault true true left).walk.positionCond = true ∧
      (fault false false left).walk.positionCond = false ∧ (fault false false left).walk.transfer = .TRANSFER_FAULT ∧
      ListSound (fault false false left)) := by
  unfold ListSound EntryFits; decide

/-- Reports that agree with a transfer and that stand against the transfer state, on a link in step and at its lock. -/
theorem witness_reported_configuration :
    let report (b : BitVec 8) : List Byte := List.replicate 18 0 ++ [b, 0]
    (report 1).length = 20 ∧ u8 (report 1) 18 = 1 ∧ u8 (report 2) 18 = 2 ∧ u8 (report 0) 18 = 0 ∧
      (linked rest).ports.link.inStep = true ∧ 2 ≤ (rest.withLink ⟨false, 2, 0, none, false⟩).ports.link.lock ∧
      (linked rest).walk.transfer = .DIG ∧ ListSound (linked rest) ∧ ListSound (linked (inTransfer .WALK rest)) ∧
      (inTransfer .TO_DIG (linked rest)).contactor = .DIG ∧ (inTransfer .TRANSFER_FAULT (linked rest)).contactor = .DIG ∧
      TransferCondsSound (inTransfer .TRANSFER_FAULT (linked rest)) := by
  unfold ListSound EntryFits TransferCondsSound; decide

/-- A transfer condition present in TRANSFER_FAULT out of the dig position is sound, in it or in DIG it is not; the machine at rest has
none. -/
theorem witness_transfer_conditions :
    let held (s : State) := s.withWalk { s.walk with positionCond := true }
    let left := (linked (inTransfer .TRANSFER_FAULT rest)).setInput .XFER_DIG_FB ⟨false, false, none⟩
    TransferCondsSound rest ∧ TransferCondsSound (held left) ∧ ¬ TransferCondsSound (held rest) ∧
      ¬ TransferCondsSound (held (inTransfer .TRANSFER_FAULT rest)) := by
  unfold TransferCondsSound; decide

/-- Reference periods of a machine that walks: a HELD step at a demand of 20 and of 21, both senses, and no sync. -/
theorem witness_walk_period :
    let s := linked (walking 500 rest)
    let wanting (v : Int) (t : State) := t.withPorts { t.ports with
      interlock := MotionSet.none, demand := t.ports.demand.set .CAB ⟨⟨0, 0, 0, v⟩, some 90000, false⟩ }
    let held := stepping (.HELD .plus) s
    (PeriodReady held 20000 ∧ StepWorks held ∧ (wanting 20 held).effectiveDemand .W = 20 ∧
      (wanting (-21) held).effectiveDemand .W = -21 ∧ PeriodReady (wanting 21 held) 20000) ∧
    (PeriodReady (stepping (.IN_CYCLE .minus) s) 20000 ∧ BothSynced s ∧ s.walk.stepMode = .SINGLE ∧
      ¬ BothSynced (s.setCam .R ⟨.SYNCING, 1, true⟩)) := by
  unfold PeriodReady ListSound EntryFits StepWorks BothSynced; decide

/-- Counted edges of both cams while the step works, and in PULSE mode, with a skew at its limit and beyond it. -/
theorem witness_cam_edges :
    let l := rising .CAM_L_A (walking 500 rest)
    let r := rising .CAM_R_B (walking 500 rest)
    let pulse := rising .CAM_R_A (having .CAM_MODE 1 (walking 500 rest))
    let limit := having .SKEW_LIMIT (mag (skewOf l)) l
    (StepWorks l ∧ edgeSense l .CAM_L_A = some .plus ∧ edgeSense r .CAM_R_B = some .minus ∧ ListSound l ∧
      BothSynced r ∧ ¬ StepWorks (inTransfer .DIG r)) ∧
    (edgeSense pulse .CAM_R_A = some .plus ∧ edgeSense (falling .CAM_R_A pulse) .CAM_R_A = none) ∧
    (mag (skewOf limit) = limit.par .SKEW_LIMIT ∧ 0 < mag (skewOf limit)) ∧
      (l.withSkewCond true).walk.skewCond = true := by
  unfold StepWorks ListSound EntryFits BothSynced; decide

/-- LUBE_OK about to change both ways while the machine walks. -/
theorem witness_lube_changes :
    let s := inTransfer .WALK rest
    let w := s.withWalk { s.walk with walkOutput := 100 }
    let low := (w.setInput .LUBE_OK ⟨false, false, none⟩).withWalk { w.walk with lubeCond := true }
    ((changing .LUBE_OK w).input .LUBE_OK).raw = false ∧ w.walk.walkOutput ≠ 0 ∧ w.walk.lubeTimer = none ∧
      w.walk.lubeCond = false ∧ ((changing .LUBE_OK low).input .LUBE_OK).raw = true ∧
      ((changing .LUBE_OK low).input .LUBE_OK).timer = some 4000 ∧ low.walk.lubeCond = true := by
  decide

/-- Stored reports that prove a brake at its threshold and below it, take ready away, and change a fault code. -/
theorem witness_stored_report :
    let proving := linked (braked .H .PROVING rest)
    let opening := linked (braked .H .OPENING rest)
    ListSound proving ∧ (proving.brake .H).state = .PROVING ∧ proving.tripInhibit .H = false ∧
      activeBrake proving.walk.transfer (channelOf .H) = some .H ∧ (opening.brake .H).state = .OPENING ∧
      s16 [0x2C, 0x01] 0 = 300 ∧ (proving.fb.chan.get .HOIST).fault = 0 ∧
      ListSound (linked (braked .H .RELEASED rest)) := by
  unfold ListSound EntryFits; decide

/-- Lists of 26 entries before LINE_DIP and POWER_CURTAIL, and both conditions present before a report. -/
theorem witness_budget_alarms :
    let s := filled 26 (linked rest)
    s.alarms.list.length = 26 ∧ s.budget.dip = false ∧ s.budget.curtail = false ∧
      (s.withBudget { s.budget with dip := true, curtail := true }).budget.dip = true := by
  decide

/-- A raise with a scope of its own of each class, in a list with room and one with the code, and a latched STOP. -/
theorem witness_scoped_raise :
    let s := listing .CAB_LINK_LOST .CLEARED_UNACK rest
    ListSound s ∧ s.codeClass .CAB_LINK_LOST = .STOP ∧ s.codeClass .ESTOP = .TRIP ∧ s.codeClass .LINE_DIP ≠ .TRIP ∧
      s.listed .CAB_LINK_LOST = true ∧ s.trend.state = .ARMED ∧ (MotionSet.ofCode 9).get .H = true ∧
      (MotionSet.ofCode 9).get .D = false ∧ rest.stopInhibit .W = false ∧
      (listing .LUBE_LOW .CLEARED_UNACK rest).stopInhibit .W = true := by
  unfold ListSound EntryFits; decide

/-- A latched entry whose reset lets TRANSFER_FAULT end. -/
theorem witness_reset_leaves_fault :
    let s := listing .TRANSFER_TIMEOUT .CLEARED_LATCHED (linked (inTransfer .TRANSFER_FAULT rest))
    ListSound s ∧ s.mayLeaveTransferFault = false ∧ FaultMayEnd (s.setList []) := by
  unfold ListSound EntryFits FaultMayEnd; decide

/-- Conditions that the phases and chord terms meet at their bounds and just miss, and a read of each read-only id. -/
theorem witness_consistency :
    let w := Profile.factory
    w.consistentWith .PHASE_4 (w.get .PHASE_3) = false ∧ w.consistentWith .PHASE_4 (w.get .PHASE_3 + 1) = true ∧
      w.consistentWith .CHORD_COS (w.get .CHORD_COS) = true ∧ w.consistentWith .CHORD_COS 0 = false ∧
      w.consistentWith .CREEP 7 = true ∧ u16 [0x02, 0x0F] 0 = 0x0F02 ∧ u16 [0x05, 0x0F] 0 = 0x0F05 ∧
      u16 [0x06, 0x0F] 0 = 0x0F06 ∧ Param.ofId 0x0F06 = none ∧
      (startSave 1 rest).store.save ≠ .IDLE ∧ (rest.port .SERVICE).tx.length < 8 := by
  decide

/-- Writes of values that do not change, of a brake at work where no gate stands, and each class that governs an output. -/
theorem witness_governing_classes :
    let s := (braked .H .RELEASED rest)
    let l (c : AlarmCode) := (listing c .ACTIVE_ACK s).alarms.list
    (s.gateClosed .SWING_CPR = true ∧ rest.gateClosed .SWING_CPR = false ∧
      (floorParam .SWING).allows (s.par (floorParam .SWING)) = true) ∧
    (Highest (l .ESTOP) .TRIP ∧ Highest (l .LUBE_LOW) .STOP ∧ Highest (l .LINE_DIP) .WARN ∧
      ¬ Highest (l .TREND_FROZEN) .WARN) ∧
    governors (listing .ESTOP .ACTIVE_ACK s) .HORN = [] ∧ governors (listing .ESTOP .ACTIVE_ACK s) .RED ≠ [] := by
  unfold Highest; decide

/-- Writes of an entry and a count at 8 and beyond, a length one short, and copies with a failure in each table. -/
theorem witness_table_checks :
    (u8 [1, 0, 9] 2 = 9 ∧ u8 [2, 9] 1 = 9 ∧ tableWriteLength .ZONE 8 = 9 ∧ ([1] : List Byte).length < 2) ∧
    (FirstFailure ⟨[⟨1, 2, 3⟩, ⟨1, 2, 3⟩], []⟩ 2 ∧ FirstFailure ⟨[], [⟨0, 3600, 1, none⟩]⟩ 11 ∧
      ¬ FirstFailure ⟨[⟨30000, 1000, 1000⟩], [⟨0, 3599, 2, some 1000⟩]⟩ 1) := by
  unfold FirstFailure RadiusFails SectorFails
  refine ⟨by decide, .inl ⟨1, by decide⟩, .inr ⟨by decide, 0, ?_⟩, ?_⟩
  · exact ⟨by decide, rfl, .inr (.inl (by decide)), by decide⟩
  · rintro (⟨i, hi, -, h, -⟩ | ⟨-, i, hi, hn, -⟩)
    · match i, hi with
      | 0, _ => revert h; decide
    · omega

end Sys2Proof.Tests
end

section
/-! PROOFS. The slow-down form of the hoist and drag limiter (R40). -/

namespace Sys2Proof.Machine

/-! ### The two branches of the form -/

theorem slowDown_of_nonpos {m : Int} (hm : m ≤ 0) (creep S : Int) : slowDown creep m S = 0 :=
  if_pos hm

theorem slowDown_of_pos {m : Int} (hm : 0 < m) (creep S : Int) :
    slowDown creep m S = max creep (min 1000 (1000 * m / S)) :=
  if_neg (Int.not_le.mpr hm)

/-! ### What follows from the ranges of span and creep -/

/-- The floor of R40 reaches the full limit exactly where the margin reaches the span. -/
theorem full_le_quotient_iff {S : Int} (hS : 0 < S) (m : Int) : 1000 ≤ 1000 * m / S ↔ S ≤ m := by
  rw [Int.le_ediv_iff_mul_le hS]
  omega

theorem slowDown_eq_full_iff {creep S : Int} (hS : 0 < S) (hc : creep < 1000) (m : Int) :
    slowDown creep m S = 1000 ↔ S ≤ m := by
  have hfull := full_le_quotient_iff hS m
  rcases Int.lt_or_le 0 m with hm | hm
  · rw [slowDown_of_pos hm]
    omega
  · rw [slowDown_of_nonpos hm]
    omega

theorem creep_le_slowDown {m : Int} (hm : 0 < m) (creep S : Int) : creep ≤ slowDown creep m S := by
  rw [slowDown_of_pos hm]
  exact Int.le_max_left ..

theorem slowDown_le_full {creep : Int} (hc : creep ≤ 1000) (m S : Int) : slowDown creep m S ≤ 1000 := by
  rcases Int.lt_or_le 0 m with hm | hm
  · rw [slowDown_of_pos hm]
    exact Int.max_le.mpr ⟨hc, Int.min_le_left ..⟩
  · rw [slowDown_of_nonpos hm]
    decide

/-- Inside the span the limit is below full: it is at most full, and it is full only from the span on. -/
theorem slowDown_lt_full {creep m S : Int} (hS : 0 < S) (hc : creep < 1000) (hm : m < S) :
    slowDown creep m S < 1000 :=
  Int.lt_iff_le_and_ne.mpr ⟨slowDown_le_full (Int.le_of_lt hc) m S, fun hfull =>
    Int.not_le.mpr hm ((slowDown_eq_full_iff hS hc m).mp hfull)⟩

/-- The form jumps from 0 to creep: no margin gives a limit between them. -/
theorem slowDown_eq_zero_or_creep_le (creep m S : Int) :
    slowDown creep m S = 0 ∨ creep ≤ slowDown creep m S :=
  (Int.lt_or_le 0 m).symm.imp (slowDown_of_nonpos · creep S) (creep_le_slowDown · creep S)

/-! ### The form at a creep of 50 and a span of 500 -/

theorem slowDown_50_500_of_pos {m : Int} (hm : 0 < m) :
    slowDown 50 m 500 = max 50 (min 1000 (2 * m)) := by
  have hquot : 1000 * m / 500 = 2 * m := by omega
  rw [slowDown_of_pos hm, hquot]

/-- Settles O19: the two branches of the form, the margin at which its floor reaches 1000, and its values at a creep of
50 and a span of 500. -/
theorem slowDownLimitHasItsForm : Obligations.SlowDownLimitHasItsForm := by
  refine ⟨fun _ _ _ => rfl, fun creep m S hS hlo hhi => ?_, fun m => ?_⟩
  · have hSpos : 0 < S := by omega
    have hcreep : creep < 1000 := by omega
    refine ⟨(slowDown_of_nonpos · creep S), (slowDown_of_pos · creep S), slowDown_eq_full_iff hSpos hcreep m,
      fun hm hmS => ⟨creep_le_slowDown hm creep S, ?_⟩, ?_⟩
    · have hlt : slowDown creep m S < 1000 := slowDown_lt_full hSpos hcreep (by omega)
      omega
    · have hgap := slowDown_eq_zero_or_creep_le creep m S
      omega
  · refine ⟨fun hm => ?_, fun hm hm' => ?_, fun hm hm' => ?_, (slowDown_of_nonpos · 50 500)⟩
    · exact (slowDown_eq_full_iff (by decide) (by decide) m).mpr hm
    · rw [slowDown_50_500_of_pos (by omega)]
      omega
    · rw [slowDown_50_500_of_pos (by omega)]
      omega

end Sys2Proof.Machine
end

section
/-! PROOFS. The approach to a NO_ENTRY sector from outside it (R66). -/

namespace Sys2Proof.Machine

/-! ### Clockwise distances -/

theorem cwDist_nonneg (p q : Int) : 0 ≤ cwDist p q :=
  Int.emod_nonneg _ (by decide)

@[simp] theorem cwDist_self (p : Int) : cwDist p p = 0 := by
  simp [cwDist]

/-- Two different angles of one turn are apart. -/
theorem cwDist_pos_of_ne {p q : Int} (hp : 0 ≤ p ∧ p ≤ 3599) (hq : 0 ≤ q ∧ q ≤ 3599) (hne : p ≠ q) :
    0 < cwDist p q := by
  unfold cwDist
  omega

/-! ### The sector -/

theorem ZoneEntry.holds_eq_false_iff (z : ZoneEntry) (α : Int) :
    z.holds α = false ↔ cwDist z.start α = 0 ∨ cwDist z.start z.stop ≤ cwDist z.start α := by
  have hnonneg := cwDist_nonneg z.start α
  simp only [ZoneEntry.holds, Bool.and_eq_false_iff, decide_eq_false_iff_not]
  omega

/-- The way clockwise to the start and the way counter-clockwise to the end make up the free arc. -/
theorem ZoneEntry.cwDist_add_cwDist_of_outside {z : ZoneEntry} {α : Int} (hout : z.holds α = false)
    (hext : 0 < cwDist z.start z.stop) :
    cwDist α z.start + cwDist z.stop α = 3600 - cwDist z.start z.stop := by
  have hstart_or_past := (z.holds_eq_false_iff α).mp hout
  unfold cwDist at *
  omega

theorem ZoneEntry.results_of_outside {z : ZoneEntry} {α : Int} (hno : z.noEntry = true) (hout : z.holds α = false)
    (creep span : Int) :
    z.results creep span α = (slowDown creep (cwDist α z.start) span, slowDown creep (cwDist z.stop α) span) := by
  simp [ZoneEntry.results, ZoneEntry.noEntryResults, hno, hout]

/-! ### The approach form -/

/-- A distance is never negative, so the form is 0 at distance 0 alone. -/
theorem slowDown_cwDist (creep p q span : Int) :
    slowDown creep (cwDist p q) span =
      if cwDist p q = 0 then 0 else max creep (min 1000 (1000 * cwDist p q / span)) := by
  have hnonneg := cwDist_nonneg p q
  split
  case isTrue hzero => exact slowDown_of_nonpos (by omega) creep span
  case isFalse hapart => exact slowDown_of_pos (by omega) creep span

theorem slowDown_cwDist_self (creep p span : Int) : slowDown creep (cwDist p p) span = 0 :=
  slowDown_of_nonpos (by simp) creep span

theorem slowDown_pos {creep m : Int} (hc : 0 < creep) (hm : 0 < m) (span : Int) : 0 < slowDown creep m span :=
  Int.lt_of_lt_of_le hc (creep_le_slowDown hm creep span)

/-- Settles O20: outside the sector both results are the slow-down form over the distance to the edge; at an edge that
distance is 0 and the one to the other edge is not, and the two make up the free arc. -/
theorem noEntrySectorSlowsTheApproach : Obligations.NoEntrySectorSlowsTheApproach := by
  intro z creep span α hno hout
  rw [ZoneEntry.results_of_outside hno hout]
  refine ⟨slowDown_cwDist creep α z.start span, slowDown_cwDist creep z.stop α span,
    fun _ _ hstart hstop hne hcreep => ?_⟩
  have hext : 0 < cwDist z.start z.stop := cwDist_pos_of_ne (by omega) (by omega) (by omega)
  have hfree : 0 < cwDist z.stop z.start := cwDist_pos_of_ne (by omega) (by omega) (by omega)
  refine ⟨?_, ?_, ZoneEntry.cwDist_add_cwDist_of_outside hout hext⟩
  · rintro rfl
    exact ⟨slowDown_cwDist_self creep z.start span, slowDown_pos (by omega) hfree span⟩
  · rintro rfl
    exact ⟨slowDown_cwDist_self creep z.stop span, slowDown_pos (by omega) hfree span⟩

end Sys2Proof.Machine
end

section
/-! PROOFS. The silence flag and the horn (R143). -/

namespace Sys2Proof.Machine

open Sys2Proof.Safety

/-! ### The demands -/

/-- The flag holds the horn off whatever its pattern. -/
theorem annDemand_horn_of_silence {s : State} (h : s.alarms.silence = true) : s.annDemand .HORN = false := by
  simp [State.annDemand, h]

/-- Buzzer and beacons follow their patterns, which do not read the flag. -/
theorem annDemand_withSilence {o : AnnOutput} (ho : o ≠ .HORN) (s : State) (v : Bool) :
    (s.withAlarms { s.alarms with silence := v }).annDemand o = s.annDemand o := by
  cases o with
  | HORN => exact absurd rfl ho
  | BUZZER | RED | AMBER => rfl

@[simp] theorem setHornDemand_demand (v : Bool) (s : State) : (setHornDemand v s).horn.demand = v := by
  unfold setHornDemand
  split
  case isTrue hsame => exact hsame.symm
  case isFalse hdiff => cases v <;> rfl

@[simp] theorem annunciate_horn_demand (s : State) : (annunciate s).horn.demand = s.annDemand .HORN :=
  setHornDemand_demand ..

@[simp] theorem annunciate_alarms (s : State) : (annunciate s).alarms = s.alarms :=
  (annunciate_quiet s).2.1

/-! ### Setting the flag -/

theorem silence_alarms (s : State) : (silence s).alarms = { s.alarms with silence := true } :=
  annunciate_alarms _

theorem silence_horn_demand (s : State) : (silence s).horn.demand = false := by
  rw [silence, annunciate_horn_demand]
  exact annDemand_horn_of_silence rfl

theorem silence_swing_ports (s : State) : (silence s).swing = s.swing ∧ (silence s).ports = s.ports := by
  obtain ⟨-, -, hswing, -, -, hports, -⟩ := (annunciate_quiet (s.withAlarms { s.alarms with silence := true })).1
  exact ⟨hswing, hports⟩

/-! ### The arrival of a frame -/

/-- Only the receiver of a port changes when a frame arrives, so every queue stays. -/
theorem frameHeard_tx (m : Master) (s : State) (x : Port) : ((frameHeard m s).port x).tx = (s.port x).tx := by
  have hline := (frameHeard_ports m s).1
  simp only [State.port, hline]
  by_cases hx : x = m.port
  · rw [hx]
    exact (setReceiver_eq s m.port .HUNT).2.1
  · exact congrArg PortLine.tx ((setReceiver_eq s m.port .HUNT).2.2.1 x hx)

theorem frameHeard_swing (m : Master) (s : State) : (frameHeard m s).swing = s.swing := by
  obtain ⟨-, -, -, -, -, -, hswing, -⟩ := frameHeard_ports m s
  exact hswing

theorem frameHeard_di (m : Master) (s : State) : (frameHeard m s).di = s.di := by
  obtain ⟨-, -, -, -, -, -, -, -, -, -, -, hdi, -⟩ := frameHeard_ports m s
  exact hdi

theorem frameHeard_hasRoom {m : Master} {s : State} (h : (s.port m.port).tx.length < 8) :
    (frameHeard m s).queueFull m.port = false := by
  simpa [State.queueFull, frameHeard_tx, queueSize] using h

theorem frameHeard_localKey (m : Master) (s : State) : (frameHeard m s).isOn .LOCAL_KEY = s.isOn .LOCAL_KEY := by
  simp [State.isOn, State.input, frameHeard_di]

/-! ### ALARM_SILENCE -/

theorem ifMayAnswer_of_may {m : Master} {s : State} (h : m = .SERVICE → s.isOn .LOCAL_KEY = true) (kind : Byte)
    (judge : State → State) : ifMayAnswer m kind judge s = judge s := by
  refine if_neg ?_
  rintro ⟨hm, hoff⟩
  simp [h hm] at hoff

/-- What a request that is taken leaves: the silenced state of the arrival, with its answer. -/
def silenced (m : Master) (s : State) : State :=
  reply m kindAlarmSilence .OK 0 (silence (frameHeard m s))

theorem alarmSilence_taken {m : Master} {p : List Byte} {s : State} (hroom : (s.port m.port).tx.length < 8)
    (hlen : p.length = 0) (hkey : m = .SERVICE → s.isOn .LOCAL_KEY = true) : alarmSilence m p s = silenced m s := by
  unfold alarmSilence
  rw [← hlen, request_judged _ _ _ _ _ (frameHeard_hasRoom hroom)]
  exact ifMayAnswer_of_may (by rwa [frameHeard_localKey]) ..

/-- No READY copy goes, so the event of a request that is taken ends with the list-change counter. -/
theorem exec_alarmSilence_taken {m : Master} {p : List Byte} {s : State} (hroom : (s.port m.port).tx.length < 8)
    (hlen : p.length = 0) (hkey : m = .SERVICE → s.isOn .LOCAL_KEY = true) :
    exec (.alarmSilence m p) s = .next (settle s (silenced m s)) := by
  have hswing : (silenced m s).swing = s.swing := (silence_swing_ports _).1.trans (frameHeard_swing m s)
  have hpending : (silenced m s).swing.pending = s.swing.pending := by rw [hswing]
  change event s (alarmSilence m p) = _
  rw [event_next, alarmSilence_taken hroom hlen hkey, endEvent_of_same hpending]

theorem silenced_alarms (m : Master) (s : State) :
    (silenced m s).alarms = { (frameHeard m s).alarms with silence := true } :=
  silence_alarms _

theorem silenced_horn_demand (m : Master) (s : State) : (silenced m s).horn.demand = false :=
  silence_horn_demand _

theorem silenced_sends (m : Master) (s : State) : Sends m.port (.reply kindAlarmSilence .OK 0) s (silenced m s) := by
  have hqueue : ((silence (frameHeard m s)).port m.port).tx = (s.port m.port).tx := by
    rw [State.port, (silence_swing_ports _).2]
    exact frameHeard_tx m s m.port
  rw [Sends, silenced, reply_eq, (enqueue_tx ..).1, hqueue]

/-! ### What follows an entry leaves the alarm unit -/

theorem runEach_alarms {α : Type} {run : α → State → State} (h : ∀ x s, (run x s).alarms = s.alarms)
    (l : List α) (s : State) : (runEach run l s).alarms = s.alarms := by
  induction l generalizing s with
  | nil => rfl
  | cons x l ih => exact (ih _).trans (h x s)

theorem seenSet_alarms (m : Motion) (s : State) : (seenSet m s).alarms = s.alarms := by
  cases m with
  | H => rfl
  | S =>
    simp only [seenSet, activateReady]
    split <;> rfl
  | D | W => exact (judgeTransferExit_quiet s).2

theorem enterSet_alarms (m : Motion) (s : State) : (enterSet m s).alarms = s.alarms :=
  seenSet_alarms m _

theorem closeBrake_alarms (m : Motion) (s : State) : (closeBrake m s).alarms = s.alarms := by
  unfold closeBrake
  split
  · rfl
  · exact enterSet_alarms m s

theorem entryAct_alarms (cls : AlarmClass) (m : Motion) (s : State) : (entryAct cls m s).alarms = s.alarms := by
  cases cls with
  | TRIP =>
    simp only [entryAct, tripAct]
    split
    · exact enterSet_alarms m s
    · exact closeBrake_alarms m s
    · exact closeBrake_alarms m s
    all_goals rfl
  | STOP =>
    simp only [entryAct, stopAct]
    split
    · exact enterSet_alarms m s
    all_goals rfl
  | WARN | INFO => rfl

theorem actOn_alarms (cls : AlarmClass) (ms : MotionSet) (s : State) : (actOn cls ms s).alarms = s.alarms :=
  runEach_alarms (entryAct_alarms cls) _ s

theorem trigger_alarms (n : Nat) (s : State) : (trigger n s).alarms = s.alarms := by
  unfold trigger
  split <;> rfl

theorem tripEffects_alarms (first : Bool) (c : AlarmCode) (gained : MotionSet) (s : State) :
    (tripEffects first c gained s).alarms = s.alarms := by
  unfold tripEffects
  split
  · rw [actOn_alarms, trigger_alarms]
  · rw [trigger_alarms, actOn_alarms]

theorem entryEffects_alarms (c : AlarmCode) (cls : AlarmClass) (gained : MotionSet) (s : State) :
    (entryEffects c cls gained s).alarms = s.alarms := by
  cases cls with
  | TRIP =>
    simp only [entryEffects]
    split
    · exact tripEffects_alarms ..
    · exact tripEffects_alarms ..
  | STOP | WARN | INFO => exact actOn_alarms ..

/-! ### A raise and the flag -/

/-- A raise of a code that has an entry is a raise of R133. -/
theorem raise_of_listed {c : AlarmCode} {s : State} (h : s.listed c = true) (detail : Int) :
    ∃ e, raise c detail s = annunciate (reraise c (s.codeScope c) detail e s) := by
  obtain ⟨e, he⟩ := Option.isSome_iff_exists.mp ((List.find?_isSome.trans List.any_eq_true.symm).mpr h)
  exact ⟨e, by rw [raise, raiseScoped, he]⟩

/-- A raise of a code that has no entry is a raise of R132 or R135. -/
theorem raise_of_unlisted {c : AlarmCode} {s : State} (h : s.listed c = false) (detail : Int) :
    raise c detail s = annunciate (raiseNew c (s.codeScope c) detail s) := by
  have hnone : s.alarms.list.find? (fun e => e.code == c) = none := by
    simpa [State.listed] using h
  rw [raise, raiseScoped, hnone]

theorem reraise_silence (c : AlarmCode) (scope : MotionSet) (detail : Int) (e : AlarmEntry) (s : State) :
    (reraise c scope detail e s).alarms.silence = false := by
  rw [reraise, entryEffects_alarms]
  rfl

/-- A new entry that finds room, its own or that of a removed entry, clears the flag. -/
theorem raiseNew_silence_of_room {c : AlarmCode} {s : State}
    (h : (makeRoom (s.codeClass c) s.alarms.list).isSome = true) (scope : MotionSet) (detail : Int) :
    (raiseNew c scope detail s).alarms.silence = false := by
  obtain ⟨l, hl⟩ := Option.isSome_iff_exists.mp h
  simp only [raiseNew, hl, entryEffects_alarms]
  split
  · rw [(judgeTransferExit_quiet _).2]
    rfl
  · rfl

/-- A raise that finds no room makes no entry and leaves the flag. -/
theorem raiseNew_silence_of_full {c : AlarmCode} {s : State}
    (h : makeRoom (s.codeClass c) s.alarms.list = none) (scope : MotionSet) (detail : Int) :
    (raiseNew c scope detail s).alarms.silence = s.alarms.silence := by
  simp only [raiseNew, h]
  rfl

theorem raise_silence_of_entry {c : AlarmCode} {s : State}
    (h : s.listed c = true ∨ (makeRoom (s.codeClass c) s.alarms.list).isSome = true) (detail : Int) :
    (raise c detail s).alarms.silence = false := by
  cases hc : s.listed c with
  | true =>
    obtain ⟨e, hraise⟩ := raise_of_listed hc detail
    rw [hraise, annunciate_alarms, reraise_silence]
  | false =>
    have hroom := h.resolve_left (by simp [hc])
    rw [raise_of_unlisted hc, annunciate_alarms, raiseNew_silence_of_room hroom]

theorem raise_silence_of_noEntry {c : AlarmCode} {s : State} (hc : s.listed c = false)
    (hfull : makeRoom (s.codeClass c) s.alarms.list = none) (detail : Int) :
    (raise c detail s).alarms.silence = s.alarms.silence := by
  rw [raise_of_unlisted hc, annunciate_alarms, raiseNew_silence_of_full hfull]

/-- Settles O39: a request that is taken leaves the silenced state, in which the horn demand is judged off; the demands
of the other outputs do not read the flag; and a raise clears it exactly where it brings an entry to ACTIVE_UNACK. -/
theorem alarmSilenceHoldsTheHornOff : Obligations.AlarmSilenceHoldsTheHornOff := by
  refine ⟨fun s m p hroom hlen hkey => ⟨_, exec_alarmSilence_taken hroom hlen hkey, ?_⟩,
    fun s => annDemand_horn_of_silence, fun s v o ho => annDemand_withSilence ho s v,
    fun s c detail => ⟨(raise_silence_of_entry · detail), (raise_silence_of_noEntry · · detail)⟩⟩
  obtain ⟨⟨-, -, -, -, -, hports, -⟩, -, -, hhorn, hlist, -, hsilence⟩ := settle_quiet s (silenced m s)
  refine ⟨?_, ?_, ?_, ?_⟩
  · rw [hsilence, silenced_alarms]
  · rw [hhorn, silenced_horn_demand]
  · rw [Sends, State.port, hports]
    exact silenced_sends m s
  · rintro rfl
    rw [hlist, silenced_alarms]
    rfl

end Sys2Proof.Machine
end
